-- ==== Sys2Proof/Word.lean ====
section
/-!
DEFINITION. The word types of the P25 frame synchronizer: the octets of the command port, the
symbols of the channel and of the codes, and bit sequences in transmission order (spec 00 R9, R14, R15).
-/

namespace Sys2Proof

/-- One octet of a command word or of a payload (R130, R68). -/
abbrev Octet := BitVec 8

/-- The channel's atomic 2-bit symbol (R14, R100). -/
abbrev Dibit := BitVec 2

/-- The 3-bit symbol of the rate-3/4 trellis (R230). -/
abbrev Tribit := BitVec 3

/-- A 4-bit trellis codeword (R230). -/
abbrev Nibble := BitVec 4

/-- A 6-bit Reed-Solomon symbol, an element of GF(64) (R15, R200). -/
abbrev Hexbit := BitVec 6

/-- A bit sequence in transmission order, index 0 first (R9). -/
abbrev Bits := List Bool

end Sys2Proof
end

