-- ==== Sys2Proof/Machine/State.lean ====
section
/-!
DEFINITION. The block's state as plain data (10_state.md), the records it emits (43 R300), the responses it
returns (30 R140), the reasons a step can stop, and the state after power-on (70 R440).
-/

namespace Sys2Proof.Machine

/-- The framer state `st` (R31). -/
inductive FramerState where
  | searching
  | identifying
  | reading
  | faulted
  deriving DecidableEq, Repr

/-- The closed set of Data Unit variants (R260). -/
inductive Variant where
  | hdu
  | tdu
  | ldu1
  | pdu
  | ldu2
  | tdulc
  deriving DecidableEq, Repr

/-- The lifecycle of a unit (R262). -/
inductive Life where
  | accumulating
  | complete
  | decoded
  deriving DecidableEq, Repr

/-- The trellis rates (R230). -/
inductive Rate where
  | half
  | threeQuarters
  deriving DecidableEq, Repr

/-- The status of a decoded field, block or codeword: `OK` or `FAIL` (R300). -/
inductive FieldStatus where
  | ok
  | fail
  deriving DecidableEq, Repr

/-- One decoded block of a PDU (R286). `cw` is the corrected block re-interleaved, or the block as received
when it failed. -/
structure Block where
  status : FieldStatus
  rate : Rate
  octets : List Octet
  errs : Nat
  cw : BitVec 196
  deriving DecidableEq, Repr

/-- The in-flight Data Unit (R35). -/
structure DataUnit where
  variant : Variant
  duid : BitVec 4
  nac : BitVec 12
  nidCw : BitVec 64
  nidErrs : Nat
  life : Life
  blocks : List Block
  total : Option Nat
  deriving DecidableEq, Repr

/-- The status of a voice entry (R362). -/
inductive VoiceStatus where
  | raw
  | ok
  | degraded
  deriving DecidableEq, Repr

/-- One voice entry of an LDU record (R362). -/
structure VoiceEntry where
  raw : BitVec 144
  vstatus : VoiceStatus
  info : BitVec 88
  verrs : Nat
  deriving DecidableEq, Repr

/-- One Low-Speed-Data codeword of an LDU record (R281). -/
structure LsdEntry where
  value : Octet
  status : FieldStatus
  errs : Nat
  deriving DecidableEq, Repr

/-- The decoded fields of an HDU (R273, R300). -/
structure HduFields where
  mi : BitVec 72
  mfid : BitVec 8
  algid : BitVec 8
  kid : BitVec 16
  tgid : BitVec 16
  hdrStatus : FieldStatus
  hdrRsErrs : Nat
  innerErrs : Nat
  innerFail : Nat
  deriving DecidableEq, Repr

/-- The decoded fields of an LDU1 (R279, R281, R300, R362). -/
structure Ldu1Fields where
  lc : BitVec 72
  lcStatus : FieldStatus
  lcRsErrs : Nat
  innerErrs : Nat
  innerFail : Nat
  lsd : List LsdEntry
  voice : List VoiceEntry
  deriving DecidableEq, Repr

/-- The decoded fields of an LDU2 (R280, R281, R300, R362). -/
structure Ldu2Fields where
  mi : BitVec 72
  algid : BitVec 8
  kid : BitVec 16
  esStatus : FieldStatus
  esRsErrs : Nat
  innerErrs : Nat
  innerFail : Nat
  lsd : List LsdEntry
  voice : List VoiceEntry
  deriving DecidableEq, Repr

/-- The decoded fields of a TDULC (R282, R300). -/
structure TdulcFields where
  lc : BitVec 72
  lcStatus : FieldStatus
  lcRsErrs : Nat
  innerErrs : Nat
  innerFail : Nat
  deriving DecidableEq, Repr

/-- One block as a PDU record lists it (R290). -/
structure BlockField where
  status : FieldStatus
  rate : Rate
  octets : List Octet
  errs : Nat
  deriving DecidableEq, Repr

/-- The decoded fields of a PDU (R290, R300). -/
structure PduFields where
  blocks : List BlockField
  format : BitVec 5
  total : Nat
  deriving DecidableEq, Repr

/-- The `fields` of an output record, per variant (R300). -/
inductive Fields where
  | tdu
  | hdu (f : HduFields)
  | ldu1 (f : Ldu1Fields)
  | ldu2 (f : Ldu2Fields)
  | tdulc (f : TdulcFields)
  | pdu (f : PduFields)
  deriving DecidableEq, Repr

/-- An output record (R300). `size` is in dibits; `dbits` are the corrected data bits (R302). -/
structure Record where
  variant : Variant
  duid : BitVec 4
  nac : BitVec 12
  nidErrs : Nat
  size : Nat
  dbits : Bits
  fields : Fields
  payload : List Octet
  deriving DecidableEq, Repr

/-- The response status (R140). -/
inductive Status where
  | ok
  | fail
  | faulted
  deriving DecidableEq, Repr

/-- The event of a FEED (R400). -/
inductive Event where
  | none
  | sync
  | nidFail
  | unrecognized
  | emitted
  deriving DecidableEq, Repr

/-- The response of a command (R140). `value` and `cw` have a width per command; they are held
zero-extended to the widest, 216 bits (notes/assumptions/7.md). -/
structure Response where
  status : Status
  event : Event
  errs : BitVec 8
  value : BitVec 216
  cw : BitVec 216
  deriving DecidableEq, Repr

/-- The faults of the BLOCK (R405). Raising one takes the block to FAULTED, which is a next state of the model
and no stop. -/
inductive FaultCause where
  | illegalOpcode
  | operandRange
  | protocolExtendComplete
  | protocolDecodeIncomplete
  | indexRange
  deriving DecidableEq, Repr

/-- The state: the tuple of R30 with the output trace (R40), and the model's own `port` and `resp`. -/
structure State where
  /-- The framer state (R31). -/
  st : FramerState
  /-- The sliding sync window (R32). -/
  window : BitVec 48
  /-- The frame buffer, oldest dibit first (R33). -/
  fbuf : List Dibit
  /-- The in-flight Data Unit (R35). -/
  unit : Option DataUnit
  /-- The unrecognized-frame counter (R36). -/
  unrec : BitVec 32
  /-- The code of the fault that entered FAULTED, or 0 (R37). -/
  faultCause : BitVec 6
  /-- The output trace, oldest record first (R40). -/
  out : List Record
  /-- The MODEL's own field (DESIGN CHOICE, notes/assumptions/5.md): the octets the host has presented on the
  command port and the block has not taken yet, first octet first (R130). -/
  port : List Octet
  /-- The MODEL's own field (DESIGN CHOICE, notes/assumptions/7.md): the response to the last command (R140). -/
  resp : Option Response
  deriving DecidableEq, Repr

/-- Why a step can stop with a fault. The block's own faults (R405) are NEXT states, so there is one reason
only, and no step reaches it. -/
inductive Fault where
  /-- Raised by the meaning of a DUID row when the state is not inside the NID step (st IDENTIFYING with 57
  dibits in the frame buffer, R325): the spec gives the dispatch no effect elsewhere. Safe: the command decoder
  never gives a DUID row, so no step raises it. -/
  | notAtNidStep
  deriving DecidableEq, Repr

/-- Why a step can be refused. -/
inductive Refusal where
  /-- Raised by an arm of `exec` whose instruction has no meaning yet; no arm of this model raises it. Safe. -/
  | notModelled (mnemonic : String)
  deriving DecidableEq, Repr

/-- The state at power-on (R440, R45); nothing is waiting on the command port and no response has been given. -/
def State.reset : State where
  st := .searching
  window := 0
  fbuf := []
  unit := none
  unrec := 0
  faultCause := 0
  out := []
  port := []
  resp := none

end Sys2Proof.Machine
end

