-- ==== Sys2Proof/Machine/Flags.lean ====
section
/-!
DEFINITION. The block has no condition flags (10 R42); their counterparts are the codes of the response and of the
status word: state, fault, event, status and variant codes, the responses, and the RDSTAT word.
-/

namespace Sys2Proof.Machine

/-- The 2-bit code of the framer state (R31). -/
def FramerState.code : FramerState → BitVec 2
  | .searching => 0
  | .identifying => 1
  | .reading => 2
  | .faulted => 3

/-- The 6-bit code of a block fault (R405). -/
def FaultCause.code : FaultCause → BitVec 6
  | .illegalOpcode => 1
  | .operandRange => 2
  | .protocolExtendComplete => 3
  | .protocolDecodeIncomplete => 4
  | .indexRange => 5

/-- The 4-bit code of an event (R400). -/
def Event.code : Event → BitVec 4
  | .none => 0
  | .sync => 1
  | .nidFail => 2
  | .unrecognized => 3
  | .emitted => 4

/-- The 2-bit code of a response status (R140). -/
def Status.code : Status → BitVec 2
  | .ok => 0
  | .fail => 1
  | .faulted => 2

/-- The variant code (R110). -/
def Variant.code : Variant → BitVec 3
  | .hdu => 0
  | .tdu => 1
  | .ldu1 => 2
  | .pdu => 3
  | .ldu2 => 4
  | .tdulc => 5

/-- The 2-bit code of a voice status (R362). -/
def VoiceStatus.code : VoiceStatus → BitVec 2
  | .raw => 0
  | .ok => 1
  | .degraded => 2

/-- The code of a field status: OK 0, FAIL 1 (R300). -/
def FieldStatus.code : FieldStatus → BitVec 1
  | .ok => 0
  | .fail => 1

/-- A response with status OK, no event, and a value (R140): encode commands, the interleavers, SYNCCHK, RDSTAT and
RESET. DESIGN CHOICE: R140 gives `cw` to decode commands only and, G23E apart (R153), no rule says what it holds in
another response; an absent `cw` is held as zero (notes/assumptions/23.md). -/
def okResponse {n : Nat} (value : BitVec n) : Response :=
  { status := .ok, event := .none, errs := 0, value := value.setWidth 216, cw := 0 }

/-- The response of a decode that failed: `value` and `cw` are zero (R140). -/
def failResponse : Response :=
  { status := .fail, event := .none, errs := 0, value := 0, cw := 0 }

/-- The response of a decode that succeeded (R140). -/
def correctedResponse {k n : Nat} (value : BitVec k) (cw : BitVec n) (errs : Nat) : Response :=
  { status := .ok, event := .none, errs := BitVec.ofNat 8 errs, value := value.setWidth 216, cw := cw.setWidth 216 }

/-- The response of a command that faulted or was refused in FAULTED (R410, R411). -/
def faultedResponse : Response :=
  { status := .faulted, event := .none, errs := 0, value := 0, cw := 0 }

/-- The response of a FEED that completed: its event, and `st` after the command (R320). The absent `cw` is held as
zero (DESIGN CHOICE, notes/assumptions/23.md). -/
def feedResponse (ev : Event) (st : FramerState) : Response :=
  { status := .ok, event := ev, errs := 0, value := st.code.setWidth 216, cw := 0 }

/-- `UA`: 1 iff a unit is in flight (R382). -/
def unitActive (s : State) : BitVec 1 :=
  if s.unit.isSome then 1 else 0

/-- The `DUID` field of the status word: 0 when no unit is in flight (R382). -/
def unitDuid (s : State) : BitVec 4 :=
  match s.unit with
  | some u => u.duid
  | none => 0

/-- `pos`, the frame position of the next dibit (R34). -/
def State.pos (s : State) : Nat := s.fbuf.length

/-- The status word S (R382): ST ‖ CAUSE ‖ 000 ‖ UA ‖ DUID ‖ POS ‖ UNREC. -/
def statusWord (s : State) : BitVec 64 :=
  s.st.code ++ s.faultCause ++ (0 : BitVec 3) ++ unitActive s ++ unitDuid s ++ BitVec.ofNat 16 s.pos ++ s.unrec

end Sys2Proof.Machine
end

