-- ==== Sys2Proof/Config.lean ====
section
/-!
DEFINITION. The OPEN parameters of the spec (00 R6, 92 "Open parameters") and the one value it does not state
(43 R280; notes/assumptions/21.md): constants with no body, so that no proof can see which value an instance has.
Each parameter's type ranges over exactly the values that R8 admits, so an ill-formed configuration cannot be
instantiated (R8, R443; notes/assumptions/1.md).
The decided and `gk` values are in Machine/Params.lean.
-/

namespace Sys2Proof

/-- DESIGN CHOICE (the spec's OPEN `HAM15_P`, R170). R8 asks the 15 columns of [Pᵀ | I₄] to be nonzero and
distinct; the four identity columns take the four weight-1 values, so the 11 rows of P are the 11 other
nonzero values in SOME order: this is that order. -/
opaque Config.ham15Order : Equiv.Perm (Fin 11)

/-- DESIGN CHOICE (the spec's OPEN `HAM10_P`, R170): as `Config.ham15Order`; the six rows of P are the first
six of the 11 values in this order. -/
opaque Config.ham10Order : Equiv.Perm (Fin 11)

/-- DESIGN CHOICE (the spec's OPEN `CYC16_GEN`, R176). Exactly two degree-8 polynomials meet R8, `0x139` and
`0x1D7`; this says whether it is the second. -/
opaque Config.cyc16SecondGen : Bool

/-- DESIGN CHOICE (the spec's OPEN `VOICE_PERM`, R361): codeword bit j is slot bit `voicePerm j`. -/
opaque Config.voicePerm : Equiv.Perm (Fin 144)

/-- DESIGN CHOICE (the spec's OPEN `IMBE_DESCRAMBLE`, R364): the 114-bit mask over c1 to c6, as a function of
the information bits of c0. Read only when `IMBE_FEC` is true. -/
opaque Config.imbeDescramble : BitVec 12 → BitVec 114

/-- DESIGN CHOICE (a value the spec does not state, 43 R280; notes/assumptions/21.md): `es_rs_errs` of an LDU2 whose
RS(24,16) decode fails, as a function of the 24 hexbits received. -/
opaque Config.esErrsOnFail : List Hexbit → Nat

end Sys2Proof
end

