-- ==== Sys2Proof/Machine/Params.lean ====
section
/-!
DEFINITION. The parameters of 00 R6 that have a value: those the source states, those the spec decided, and the
`gk` defaults (candidates from general knowledge, which the spec allows a model to take; notes/assumptions/2.md).
The rules read a parameter by its name here and nowhere else (R7). The OPEN parameters come from Config.lean.
-/

namespace Sys2Proof.Machine

/-- `FS`, the frame sync constant (R101; source). -/
def frameSync : BitVec 48 := 0x5575F5FF77FF

/-- `SYNC_THRESHOLD`: sync correlates iff the distance is below it (R102; source). -/
def syncThreshold : Nat := 4

/-- `STATUS_PERIOD`: the period of the status symbols, in dibits (R62; source). -/
def statusPeriod : Nat := 36

/-- `NID_PARITY_CHECK` (R166; decision D8; notes/assumptions/3.md). -/
def nidParityCheck : Bool := false

/-- `IMBE_FEC` (R362; decision D17; notes/assumptions/3.md). -/
def imbeFec : Bool := false

/-- `VOICE_DEGRADE_ERRS`, where `none` is infinity (R365; decision D41; notes/assumptions/3.md). -/
def voiceDegradeErrs : Option Nat := none

/-- `GOLAY_GEN`, without a width of its own: x^11+x^10+x^6+x^5+x^4+x^2+1 (R152; gk). -/
def golayGen : BitVec 23 := 0xC75

/-- `BCH_GEN`, degree 47 (R161; gk). -/
def bchGen : BitVec 63 := 0xCD930BDD3B2B

/-- `GF64_POLY`, x^6+x+1 (R200; gk). -/
def gf64Poly : BitVec 11 := 0x43

/-- `RS_B`, the exponent of the first root of every Reed-Solomon generator (R201; gk). -/
def rsFirstRoot : Nat := 1

/-- The 4-bit values that R8 admits as rows of a Hamming parity sub-matrix: nonzero and not a column of I₄. -/
def hammingRowValues : List Nibble := [3, 5, 6, 7, 9, 10, 11, 12, 13, 14, 15]

/-- `HAM15_P`: 11 rows of 4 bits (R170; OPEN, Config.ham15Order). -/
def ham15P : List Nibble := (List.finRange 11).map fun i => hammingRowValues.getD (Config.ham15Order i).val 0

/-- `HAM10_P`: 6 rows of 4 bits (R170; OPEN, Config.ham10Order). -/
def ham10P : List Nibble :=
  ((List.finRange 11).map fun i => hammingRowValues.getD (Config.ham10Order i).val 0).take 6

/-- `CYC16_GEN`, degree 8 (R176; OPEN between its two admissible values, Config.cyc16SecondGen). -/
def cyc16Gen : BitVec 16 := if Config.cyc16SecondGen then 0x1D7 else 0x139

/-- `TRELLIS12_NEXT`, row by row (R232; gk candidate). -/
def trellis12Rows : List (List Nibble) :=
  [[0x2, 0xC, 0x1, 0xF], [0xE, 0x0, 0xD, 0x3], [0x9, 0x7, 0xA, 0x4], [0x5, 0xB, 0x6, 0x8]]

/-- `TRELLIS34_NEXT`, row by row (R233; gk candidate). -/
def trellis34Rows : List (List Nibble) :=
  [[0x2, 0xD, 0xE, 0x1, 0x7, 0x8, 0xB, 0x4], [0xE, 0x1, 0x7, 0x8, 0xB, 0x4, 0x2, 0xD],
   [0xA, 0x5, 0x6, 0x9, 0xF, 0x0, 0x3, 0xC], [0x6, 0x9, 0xF, 0x0, 0x3, 0xC, 0xA, 0x5],
   [0xF, 0x0, 0x3, 0xC, 0xA, 0x5, 0x6, 0x9], [0x3, 0xC, 0xA, 0x5, 0x6, 0x9, 0xF, 0x0],
   [0x7, 0x8, 0xB, 0x4, 0x2, 0xD, 0xE, 0x1], [0xB, 0x4, 0x2, 0xD, 0xE, 0x1, 0x7, 0x8]]

/-- `BLOCK_ILV`: deinterleaved codeword k is transmitted as codeword `blockIlv[k]`; the table itself (R240; gk
candidate). -/
def blockIlv : List Nat :=
  [0, 13, 25, 37, 1, 14, 26, 38, 2, 15, 27, 39, 3, 16, 28, 40, 4, 17, 29, 41, 5, 18, 30, 42, 6, 19, 31, 43, 7, 20,
   32, 44, 8, 21, 33, 45, 9, 22, 34, 46, 10, 23, 35, 47, 11, 24, 36, 48, 12]

/-- `VOICE_PERM`: codeword bit j is slot bit `voicePerm[j]` (R361; OPEN, Config.voicePerm). -/
def voicePerm : List Nat := (List.finRange 144).map fun j => (Config.voicePerm j).val

/-- `SIZE_TDU`, in dibits (R116; source). -/
def sizeTdu : Nat := 72

/-- `SIZE_TDULC`, in dibits (R120; source). -/
def sizeTdulc : Nat := 216

/-- `SIZE_HDU`, in dibits (R117; gk). -/
def sizeHdu : Nat := 396

/-- `SIZE_LDU`, in dibits (R118; derived, with gk). -/
def sizeLdu : Nat := 864

/-- `BLOCK_BITS`, the size of an interleaved PDU block (R121; gk). -/
def blockBits : Nat := 196

/-- The data bit at which a variant's body begins (R115). -/
def bodyStart : Nat := 112

/-- `LDU_LAYOUT`: where the nine voice slots begin, in data bits (R119, R360; gk candidate). -/
def voiceSlots : List Nat := [112, 256, 440, 624, 808, 992, 1176, 1360, 1536]

/-- `LDU_LAYOUT`: where the six 40-bit LC or ES segments begin, in data bits (R119, R278; gk candidate). -/
def lduSegments : List Nat := [400, 584, 768, 952, 1136, 1320]

/-- `LDU_LAYOUT`: where the two LSD codewords begin, in data bits (R119, R281; gk candidate). -/
def lsdStarts : List Nat := [1504, 1520]

/-- `PDU_TOTAL_BLOCKS`: whether the alternative `HEADER_ONLY` is taken (R287; decision D13;
notes/assumptions/4.md). -/
def pduHeaderOnly : Bool := false

/-- `MAX_PDU_BLOCKS` (R6, R287). -/
def maxPduBlocks : Nat := 128

end Sys2Proof.Machine
end

