-- ==== Sys2Proof/Machine/Ops.lean ====
section
/-!
DEFINITION. The named operations the rules share: popcount and distance (00 R10), the bit utilities over bit
sequences (20 R65 to R68), status stripping (R62, R63), entry to SEARCHING (44 R323), taking a block fault
(60 R410) and returning from one (46 R380), and giving a response (30 R140).
-/

namespace Sys2Proof.Machine

/-! ## Counting -/

/-- The number of one bits of each 4-bit value: digit d of the literal, least significant first, is that of d. -/
def nibbleOnes : Nat := 0x4332322132212110

/-- The number of one bits among the low `4n` bits of `v`. -/
def countOnes : Nat → Nat → Nat
  | 0, _ => 0
  | n + 1, v => (nibbleOnes >>> (4 * (v % 16))) % 16 + countOnes n (v / 16)

/-- `popcount` (R10). -/
def popcount {n : Nat} (v : BitVec n) : Nat := countOnes ((n + 3) / 4) v.toNat

/-- `dist`, the Hamming distance (R10). -/
def dist {n : Nat} (a b : BitVec n) : Nat := popcount (a ^^^ b)

/-- `parity`: popcount mod 2 (R155). -/
def parity {n : Nat} (v : BitVec n) : BitVec 1 := BitVec.ofNat 1 (popcount v)

/-- `sdist`: the number of positions where two symbol vectors differ (R10). -/
def sdist {n : Nat} : List (BitVec n) → List (BitVec n) → Nat
  | a :: as, b :: bs => (if a = b then 0 else 1) + sdist as bs
  | _, _ => 0

/-- The result of a codec decode (R12). -/
inductive Decoded (α β : Type) where
  | ok (value : α) (cw : β) (errs : Nat)
  | fail
  deriving DecidableEq, Repr

/-! ## Bit sequences -/

/-- `int(s)`: the unsigned integer of an MSB-first sequence (R10). -/
def int (s : Bits) : Nat := s.foldl (fun acc b => 2 * acc + b.toNat) 0

/-- `bits(v, n)`: the n-bit MSB-first sequence of a number (R10). -/
def bits (v n : Nat) : Bits := (List.range n).map fun i => v.testBit (n - 1 - i)

/-- The MSB-first sequence of a bit vector (R10). -/
def bitsOf {n : Nat} (v : BitVec n) : Bits := bits v.toNat n

/-- EXTRACT: the bits at a to b-1 as a number; INDEX_RANGE out of range (R65). -/
def extract (s : Bits) (a b : Nat) : Except FaultCause Nat :=
  if a ≤ b ∧ b ≤ s.length then .ok (int ((s.drop a).take (b - a))) else .error .indexRange

/-- Whether every index lies in the sequence (R66, R67). -/
def inRange (s : Bits) (idx : List Nat) : Bool := idx.all fun i => decide (i < s.length)

/-- GATHER: the bits at the listed positions as a number; INDEX_RANGE out of range (R66). -/
def gather (s : Bits) (idx : List Nat) : Except FaultCause Nat :=
  if inRange s idx then .ok (int (idx.map fun i => s.getD i false)) else .error .indexRange

/-- Replaces the bits at the listed positions, one by one. -/
def setBits : Bits → List Nat → Bits → Bits
  | s, i :: is, b :: bs => setBits (s.set i b) is bs
  | s, _, _ => s

/-- SCATTER: the sequence with the listed positions replaced by the bits of `v`; INDEX_RANGE out of range (R67). -/
def scatter (s : Bits) (idx : List Nat) (v : Nat) : Except FaultCause Bits :=
  if inRange s idx then .ok (setBits s idx (bits v idx.length)) else .error .indexRange

/-- The positions a, a+1, … a+n-1. -/
def span (a n : Nat) : List Nat := List.range' a n

/-- A bit sequence cut into symbols of `w` bits, first symbol first (R68, R133). -/
def symbols (w : Nat) (s : Bits) : List (BitVec w) :=
  (List.range (s.length / w)).map fun j => BitVec.ofNat w (int ((s.drop (w * j)).take w))

/-- `octets(s)` (R68). -/
def octets (s : Bits) : List Octet := symbols 8 s

/-- `hexbits(s)` (R68). -/
def hexbits (s : Bits) : List Hexbit := symbols 6 s

/-- `unhex`, and the same for symbols of any width: their bits one after the other (R68, R286). -/
def symbolBits {w : Nat} (l : List (BitVec w)) : Bits := l.flatMap bitsOf

/-! ## Frame positions -/

/-- Whether a frame position is a status position (R62). -/
def isStatus (p : Nat) : Bool := p % statusPeriod == statusPeriod - 1

/-- The data dibits of a frame whose first dibit stands at position `p` (R63). -/
def dataDibitsFrom : Nat → List Dibit → List Dibit
  | _, [] => []
  | p, d :: ds => if isStatus p then dataDibitsFrom (p + 1) ds else d :: dataDibitsFrom (p + 1) ds

/-- `dataDibits` (R63). -/
def dataDibits (f : List Dibit) : List Dibit := dataDibitsFrom 0 f

/-- `dataBits` (R63). -/
def dataBits (f : List Dibit) : Bits := symbolBits (dataDibits f)

/-- `ndata`: the number of data dibits in positions 0 to L-1 (R63). -/
def ndata (L : Nat) : Nat := L - L / statusPeriod

/-! ## State transitions shared by commands -/

/-- Entry to SEARCHING (R323). -/
def enterSearching (s : State) : State :=
  { s with st := .searching, window := 0, fbuf := [], unit := none }

/-- Counts one rejected candidate, modulo 2^32 (R36, R326, R328). -/
def countUnrecognized (s : State) : State :=
  { s with unrec := s.unrec + 1 }

/-- Hands a record to the sink (R40). -/
def emit (r : Record) (s : State) : State :=
  { s with out := s.out ++ [r] }

/-- Gives the response of a command (R140). -/
def respond (r : Response) (s : State) : State :=
  { s with resp := some r }

/-- Taking a block fault (R410). `s` is the state BEFORE the command, so every element but `st` and `fault_cause`
keeps its value: faults are precise. -/
def raiseFault (c : FaultCause) (s : State) : State :=
  { s with st := .faulted, faultCause := c.code, resp := some faultedResponse }

/-- Refusing a command in FAULTED (R411). -/
def refuse (s : State) : State := respond faultedResponse s

/-- RESET, the only return from FAULTED (R380, R412): every element of R30 but `out`. -/
def resetBlock (s : State) : State :=
  { enterSearching s with unrec := 0, faultCause := 0 }

/-- A command other than RESET and RDSTAT that cannot fault on its own operand: refused in FAULTED, otherwise run
(R413). -/
def unlessFaulted (s : State) (run : State) : State :=
  if s.st = .faulted then refuse s else run

end Sys2Proof.Machine
end

