-- ==== Sys2Proof/Machine/Operands.lean ====
section
/-!
DEFINITION. Operand assembly: the range check of an operand field against its width W with the order of the checks
(30 R130, 60 R413), and the packing of symbol sequences, symbol 0 in the most significant bits (30 R133).
-/

namespace Sys2Proof.Machine

/-- The checks before a command with an operand runs, in the order of R413: refused in FAULTED; OPERAND_RANGE when
the operand does not fit W bits; otherwise `run` on the W-bit operand. -/
def withOperand {n : Nat} (W : Nat) (v : BitVec n) (s : State) (run : BitVec W → State) : State :=
  if s.st = .faulted then refuse s
  else if 2 ^ W ≤ v.toNat then raiseFault .operandRange s
  else run (v.setWidth W)

/-- A pure command: its response is a function of its operand alone, and it changes no state (R41, R383). -/
def pureCommand {n : Nat} (W : Nat) (v : BitVec n) (f : BitVec W → Response) (s : State) :
    Host.Outcome State Fault Refusal :=
  .next (withOperand W v s fun m => respond (f m) s)

/-- The response of a codec decode (R12, R140). -/
def decodedResponse {k n : Nat} : Decoded (BitVec k) (BitVec n) → Response
  | .ok m c e => correctedResponse m c e
  | .fail => failResponse

/-- The `k` symbols of `w` bits packed in a value, symbol 0 in the most significant bits (R133). -/
def unpack {n : Nat} (w k : Nat) (v : BitVec n) : List (BitVec w) :=
  (List.range k).map fun i => v.extractLsb' (w * (k - 1 - i)) w

/-- Symbols packed into a value, symbol 0 in the most significant bits (R133). -/
def pack {w : Nat} (n : Nat) (l : List (BitVec w)) : BitVec n :=
  l.foldl (fun acc x => (acc <<< w) ||| x.setWidth n) 0

end Sys2Proof.Machine
end

