-- ==== Sys2Proof/Machine/BlockCodes.lean ====
section
/-!
DEFINITION. The binary block codes and the NID validator (40_block_codes.md): Golay(23,12), (24,12), (18,6),
BCH(63,16), (64,16), Hamming(15,11), (10,6), cyclic(16,8), and the commands that expose them.
-/

namespace Sys2Proof.Machine

/-! ## Shared: polynomial remainder and bounded-distance decoding -/

/-- The remainder of a polynomial over GF(2) by `g` of degree `d`, the polynomial's coefficients from x^(d+k-1)
down (R152, R161, R176): bit i is the coefficient of x^i. -/
def polyRem {n : Nat} (g : BitVec n) (d : Nat) : Nat → BitVec n → BitVec n
  | 0, a => a
  | k + 1, a => polyRem g d k (if a.getLsbD (d + k) then a ^^^ (g <<< k) else a)

/-- The systematic codeword of a `k`-bit message: the message in the high bits, the remainder of m(x)·x^d in the
low d bits (R152, R161, R176). -/
def cyclicEncode {k : Nat} (n d : Nat) (g : BitVec n) (m : BitVec k) : BitVec n :=
  let shifted : BitVec n := m.setWidth n <<< d
  shifted ||| polyRem g d k shifted

/-- The code extended by an even-parity bit (R155, R164). -/
def extendEven {n : Nat} (c : BitVec n) : BitVec (n + 1) := c ++ parity c

/-- The rows of a linear code's generator matrix: the codewords of the messages with one bit set, the most
significant first. The code is the set of their sums. -/
def generatorRows {k n : Nat} (enc : BitVec k → BitVec n) : List (BitVec n) :=
  (List.range k).map fun i => enc (BitVec.twoPow k (k - 1 - i))

/-- Searches the words `c` + (sums of the rows) for one within distance `t` of `r` (R150). -/
def searchCode {n : Nat} (t : Nat) (r : BitVec n) : List (BitVec n) → BitVec n → Option (BitVec n)
  | [], c => if dist c r ≤ t then some c else none
  | g :: gs, c =>
    match searchCode t r gs c with
    | some found => some found
    | none => searchCode t r gs (c ^^^ g)

/-- The information bits of a word of a systematic code: the high `k` bits (R152, R161, R176). -/
def infoBits (k : Nat) {n : Nat} (c : BitVec n) : BitVec k := c.extractLsb' (n - k) k

/-- Bounded-distance decoding of a systematic linear code, given by its encoder, at radius `t` (R150). DEDUCED:
the codewords are the sums of generator rows, so adding every such sum to ONE codeword, here the one that agrees
with `r` in the information bits, runs through them all (notes/assumptions/11.md). -/
def bdd {k n : Nat} (enc : BitVec k → BitVec n) (t : Nat) (r : BitVec n) : Decoded (BitVec k) (BitVec n) :=
  match searchCode t r (generatorRows enc) (enc (infoBits k r)) with
  | some c => .ok (infoBits k c) c (dist c r)
  | none => .fail

/-! ## Golay codes -/

/-- `enc23` (R152). -/
def enc23 (m : BitVec 12) : BitVec 23 := cyclicEncode 23 11 golayGen m

/-- `enc24` (R155). -/
def enc24 (m : BitVec 12) : BitVec 24 := extendEven (enc23 m)

/-- `enc18` (R158). -/
def enc18 (m : BitVec 6) : BitVec 18 := (enc24 (m.setWidth 12)).setWidth 18

/-- `BDD(C23, 3, ·)` (R154). -/
def dec23 (r : BitVec 23) : Decoded (BitVec 12) (BitVec 23) := bdd enc23 3 r

/-- `BDD(C24, 3, ·)` (R157). -/
def dec24 (r : BitVec 24) : Decoded (BitVec 12) (BitVec 24) := bdd enc24 3 r

/-- `BDD(C18, 3, ·)` (R160). -/
def dec18 (r : BitVec 18) : Decoded (BitVec 6) (BitVec 18) := bdd enc18 3 r

/-! ## BCH codes -/

/-- `enc63` (R161). -/
def enc63 (m : BitVec 16) : BitVec 63 := cyclicEncode 63 47 bchGen m

/-- `enc64` (R164). -/
def enc64 (m : BitVec 16) : BitVec 64 := extendEven (enc63 m)

/-- `BDD(C63, 11, ·)` (R163). -/
def dec63 (r : BitVec 63) : Decoded (BitVec 16) (BitVec 63) := bdd enc63 11 r

/-- `BDD(C64, 11, ·)` (R165). -/
def dec64 (r : BitVec 64) : Decoded (BitVec 16) (BitVec 64) := bdd enc64 11 r

/-- `nidValidate` for a setting of `NID_PARITY_CHECK` (R166). -/
def nidValidateWith (parityCheck : Bool) (nid : BitVec 64) : Decoded (BitVec 16) (BitVec 64) :=
  if parityCheck then dec64 nid
  else
    match dec63 (nid.extractLsb' 1 63) with
    | .ok i _ n => .ok i (enc64 i) n
    | .fail => .fail

/-- `nidValidate` (R166). -/
def nidValidate (nid : BitVec 64) : Decoded (BitVec 16) (BitVec 64) := nidValidateWith nidParityCheck nid

/-! ## Hamming codes -/

/-- `p(m)`: the sum of the rows P[i] over the message positions i that hold a one, position 0 the most significant
bit (R170). -/
def hammingParity {k : Nat} (P : List Nibble) (m : BitVec k) : Nibble :=
  (List.range k).foldl (fun acc i => if m.getLsbD (k - 1 - i) then acc ^^^ P.getD i 0 else acc) 0

/-- `encH` (R170). -/
def hammingEncode {k : Nat} (P : List Nibble) (m : BitVec k) : BitVec (k + 4) := m ++ hammingParity P m

/-- The columns of the parity-check matrix, in position order: the rows of P, then the identity (R170). -/
def hammingColumns (P : List Nibble) : List Nibble := P ++ [8, 4, 2, 1]

/-- `syndrome` (R170). -/
def hammingSyndrome {k : Nat} (P : List Nibble) (r : BitVec (k + 4)) : Nibble :=
  r.setWidth 4 ^^^ hammingParity P (r.extractLsb' 4 k)

/-- `decH` (R170). -/
def hammingDecode {k : Nat} (P : List Nibble) (r : BitVec (k + 4)) : Decoded (BitVec k) (BitVec (k + 4)) :=
  let s := hammingSyndrome P r
  if s = 0 then .ok (r.extractLsb' 4 k) r 0
  else
    match (hammingColumns P).findIdx? (· = s) with
    | some q =>
      let c := r ^^^ BitVec.twoPow (k + 4) (k + 4 - 1 - q)
      .ok (c.extractLsb' 4 k) c 1
    | none => .fail

/-- `encH15` (R172). -/
def encH15 (m : BitVec 11) : BitVec 15 := hammingEncode ham15P m

/-- `decH15` (R173). -/
def decH15 (r : BitVec 15) : Decoded (BitVec 11) (BitVec 15) := hammingDecode ham15P r

/-- `encH10` (R174). -/
def encH10 (m : BitVec 6) : BitVec 10 := hammingEncode ham10P m

/-- `decH10` (R175). -/
def decH10 (r : BitVec 10) : Decoded (BitVec 6) (BitVec 10) := hammingDecode ham10P r

/-! ## Cyclic code -/

/-- `encC` (R176). -/
def encC16 (m : BitVec 8) : BitVec 16 := cyclicEncode 16 8 cyc16Gen m

/-- `BDD(C16, 2, ·)` (R176, R179). -/
def decC16 (r : BitVec 16) : Decoded (BitVec 8) (BitVec 16) := bdd encC16 2 r

/-! ## Commands -/

/-- NIDCHK (R166). -/
def execNidchk (v : BitVec 64) (s : State) : Host.Outcome State Fault Refusal :=
  pureCommand 64 v (fun nid => decodedResponse (nidValidate nid)) s

/-- G23E (R153). -/
def execG23e (v : BitVec 16) (s : State) : Host.Outcome State Fault Refusal :=
  pureCommand 12 v (fun m => okResponse (enc23 m)) s

/-- G23D (R154). -/
def execG23d (v : BitVec 24) (s : State) : Host.Outcome State Fault Refusal :=
  pureCommand 23 v (fun r => decodedResponse (dec23 r)) s

/-- G24E (R156). -/
def execG24e (v : BitVec 16) (s : State) : Host.Outcome State Fault Refusal :=
  pureCommand 12 v (fun m => okResponse (enc24 m)) s

/-- G24D (R157). -/
def execG24d (v : BitVec 24) (s : State) : Host.Outcome State Fault Refusal :=
  pureCommand 24 v (fun r => decodedResponse (dec24 r)) s

/-- G18E (R159). -/
def execG18e (v : BitVec 8) (s : State) : Host.Outcome State Fault Refusal :=
  pureCommand 6 v (fun m => okResponse (enc18 m)) s

/-- G18D (R160). -/
def execG18d (v : BitVec 24) (s : State) : Host.Outcome State Fault Refusal :=
  pureCommand 18 v (fun r => decodedResponse (dec18 r)) s

/-- B63E (R162). -/
def execB63e (v : BitVec 16) (s : State) : Host.Outcome State Fault Refusal :=
  pureCommand 16 v (fun m => okResponse (enc63 m)) s

/-- B63D (R163). -/
def execB63d (v : BitVec 64) (s : State) : Host.Outcome State Fault Refusal :=
  pureCommand 63 v (fun r => decodedResponse (dec63 r)) s

/-- B64E (R164). -/
def execB64e (v : BitVec 16) (s : State) : Host.Outcome State Fault Refusal :=
  pureCommand 16 v (fun m => okResponse (enc64 m)) s

/-- B64D (R165). -/
def execB64d (v : BitVec 64) (s : State) : Host.Outcome State Fault Refusal :=
  pureCommand 64 v (fun r => decodedResponse (dec64 r)) s

/-- H15E (R172). -/
def execH15e (v : BitVec 16) (s : State) : Host.Outcome State Fault Refusal :=
  pureCommand 11 v (fun m => okResponse (encH15 m)) s

/-- H15D (R173). -/
def execH15d (v : BitVec 16) (s : State) : Host.Outcome State Fault Refusal :=
  pureCommand 15 v (fun r => decodedResponse (decH15 r)) s

/-- H10E (R174). -/
def execH10e (v : BitVec 8) (s : State) : Host.Outcome State Fault Refusal :=
  pureCommand 6 v (fun m => okResponse (encH10 m)) s

/-- H10D (R175). -/
def execH10d (v : BitVec 16) (s : State) : Host.Outcome State Fault Refusal :=
  pureCommand 10 v (fun r => decodedResponse (decH10 r)) s

/-- C16E (R178). -/
def execC16e (v : BitVec 8) (s : State) : Host.Outcome State Fault Refusal :=
  pureCommand 8 v (fun m => okResponse (encC16 m)) s

/-- C16D (R179). -/
def execC16d (v : BitVec 16) (s : State) : Host.Outcome State Fault Refusal :=
  pureCommand 16 v (fun r => decodedResponse (decC16 r)) s

end Sys2Proof.Machine
end

