-- ==== Sys2Proof/Syntax.lean ====
section
/-!
DEFINITION. The syntax of the block's instructions: one constructor per row of spec/opcode_table.json, in the
table's order: the 33 commands of the command port (30 R131), the 14 rows of illegal opcodes (R132), and the
16 rows of the DUID decode table (R110, R111).
-/

namespace Sys2Proof

/-- The instructions of the block.

A COMMAND carries its operand octets as one big-endian value of 8·OPLEN bits (R130); whether the value fits the
operand width W is checked when the command runs (R413), so an over-wide operand is an instruction too.
An ILLEGAL row carries the bits of the opcode octet that its mask leaves free.
A DUID row is the dispatch of a valid NID (R327, R328): it carries the corrected NAC and the number of bit errors
the NID validator corrected; its DUID is the row's own. -/
inductive Instr where
  /-- FEED, opcode 0x01, OPLEN 1, W 2: dibit d (R320). -/
  | feed (v : BitVec 8)
  /-- RESET, opcode 0x02, no operand (R380). -/
  | reset
  /-- RDSTAT, opcode 0x03, no operand (R382). -/
  | rdstat
  /-- SYNCCHK, opcode 0x04, OPLEN 6, W 48: window value w (R335). -/
  | syncchk (v : BitVec 48)
  /-- NIDCHK, opcode 0x05, OPLEN 8, W 64: NID word (R166). -/
  | nidchk (v : BitVec 64)
  /-- G23E, opcode 0x10, OPLEN 2, W 12: data m (R153). -/
  | g23e (v : BitVec 16)
  /-- G23D, opcode 0x11, OPLEN 3, W 23: codeword r (R154). -/
  | g23d (v : BitVec 24)
  /-- G24E, opcode 0x12, OPLEN 2, W 12: data m (R156). -/
  | g24e (v : BitVec 16)
  /-- G24D, opcode 0x13, OPLEN 3, W 24: codeword r (R157). -/
  | g24d (v : BitVec 24)
  /-- G18E, opcode 0x14, OPLEN 1, W 6: data m (R159). -/
  | g18e (v : BitVec 8)
  /-- G18D, opcode 0x15, OPLEN 3, W 18: codeword r (R160). -/
  | g18d (v : BitVec 24)
  /-- B63E, opcode 0x18, OPLEN 2, W 16: data m (R162). -/
  | b63e (v : BitVec 16)
  /-- B63D, opcode 0x19, OPLEN 8, W 63: codeword r (R163). -/
  | b63d (v : BitVec 64)
  /-- B64E, opcode 0x1A, OPLEN 2, W 16: data m (R164). -/
  | b64e (v : BitVec 16)
  /-- B64D, opcode 0x1B, OPLEN 8, W 64: codeword r (R165). -/
  | b64d (v : BitVec 64)
  /-- H15E, opcode 0x20, OPLEN 2, W 11: data m (R172). -/
  | h15e (v : BitVec 16)
  /-- H15D, opcode 0x21, OPLEN 2, W 15: codeword r (R173). -/
  | h15d (v : BitVec 16)
  /-- H10E, opcode 0x22, OPLEN 1, W 6: data m (R174). -/
  | h10e (v : BitVec 8)
  /-- H10D, opcode 0x23, OPLEN 2, W 10: codeword r (R175). -/
  | h10d (v : BitVec 16)
  /-- C16E, opcode 0x24, OPLEN 1, W 8: data m (R178). -/
  | c16e (v : BitVec 8)
  /-- C16D, opcode 0x25, OPLEN 2, W 16: codeword r (R179). -/
  | c16d (v : BitVec 16)
  /-- RS2412E, opcode 0x30, OPLEN 9, W 72: 12 hexbits (R205). -/
  | rs2412e (v : BitVec 72)
  /-- RS2412D, opcode 0x31, OPLEN 18, W 144: 24 hexbits (R206). -/
  | rs2412d (v : BitVec 144)
  /-- RS2416E, opcode 0x32, OPLEN 12, W 96: 16 hexbits (R207). -/
  | rs2416e (v : BitVec 96)
  /-- RS2416D, opcode 0x33, OPLEN 18, W 144: 24 hexbits (R208). -/
  | rs2416d (v : BitVec 144)
  /-- RS3620E, opcode 0x34, OPLEN 15, W 120: 20 hexbits (R209). -/
  | rs3620e (v : BitVec 120)
  /-- RS3620D, opcode 0x35, OPLEN 27, W 216: 36 hexbits (R210). -/
  | rs3620d (v : BitVec 216)
  /-- T12E, opcode 0x40, OPLEN 12, W 96: 48 dibits (R235). -/
  | t12e (v : BitVec 96)
  /-- T12D, opcode 0x41, OPLEN 25, W 196: 49 nibbles (R236). -/
  | t12d (v : BitVec 200)
  /-- T34E, opcode 0x42, OPLEN 18, W 144: 48 tribits (R237). -/
  | t34e (v : BitVec 144)
  /-- T34D, opcode 0x43, OPLEN 25, W 196: 49 nibbles (R238). -/
  | t34d (v : BitVec 200)
  /-- BILV, opcode 0x44, OPLEN 25, W 196: 196-bit block (R242). -/
  | bilv (v : BitVec 200)
  /-- BDILV, opcode 0x45, OPLEN 25, W 196: 196-bit block (R243). -/
  | bdilv (v : BitVec 200)
  /-- Illegal opcode 0x00 (R132). -/
  | illegal00
  /-- Illegal opcodes 0x06 to 0x07: the low 1 bit (R132). -/
  | illegal06 (x : BitVec 1)
  /-- Illegal opcodes 0x08 to 0x0F: the low 3 bits (R132). -/
  | illegal08 (x : BitVec 3)
  /-- Illegal opcodes 0x16 to 0x17: the low 1 bit (R132). -/
  | illegal16 (x : BitVec 1)
  /-- Illegal opcodes 0x1C to 0x1F: the low 2 bits (R132). -/
  | illegal1C (x : BitVec 2)
  /-- Illegal opcodes 0x26 to 0x27: the low 1 bit (R132). -/
  | illegal26 (x : BitVec 1)
  /-- Illegal opcodes 0x28 to 0x2F: the low 3 bits (R132). -/
  | illegal28 (x : BitVec 3)
  /-- Illegal opcodes 0x36 to 0x37: the low 1 bit (R132). -/
  | illegal36 (x : BitVec 1)
  /-- Illegal opcodes 0x38 to 0x3F: the low 3 bits (R132). -/
  | illegal38 (x : BitVec 3)
  /-- Illegal opcodes 0x46 to 0x47: the low 1 bit (R132). -/
  | illegal46 (x : BitVec 1)
  /-- Illegal opcodes 0x48 to 0x4F: the low 3 bits (R132). -/
  | illegal48 (x : BitVec 3)
  /-- Illegal opcodes 0x50 to 0x5F: the low 4 bits (R132). -/
  | illegal50 (x : BitVec 4)
  /-- Illegal opcodes 0x60 to 0x7F: the low 5 bits (R132). -/
  | illegal60 (x : BitVec 5)
  /-- Illegal opcodes 0x80 to 0xFF: the low 7 bits (R132). -/
  | illegal80 (x : BitVec 7)
  /-- A valid NID with DUID 0x0: HDU (R110, R327). -/
  | duid0Hdu (nac : BitVec 12) (errs : Nat)
  /-- A valid NID with the unrecognized DUID 0x1 (R111, R328). -/
  | duid1Unrecognized (nac : BitVec 12) (errs : Nat)
  /-- A valid NID with the unrecognized DUID 0x2 (R111, R328). -/
  | duid2Unrecognized (nac : BitVec 12) (errs : Nat)
  /-- A valid NID with DUID 0x3: TDU (R110, R327). -/
  | duid3Tdu (nac : BitVec 12) (errs : Nat)
  /-- A valid NID with the unrecognized DUID 0x4 (R111, R328). -/
  | duid4Unrecognized (nac : BitVec 12) (errs : Nat)
  /-- A valid NID with DUID 0x5: LDU1 (R110, R327). -/
  | duid5Ldu1 (nac : BitVec 12) (errs : Nat)
  /-- A valid NID with the unrecognized DUID 0x6 (R111, R328). -/
  | duid6Unrecognized (nac : BitVec 12) (errs : Nat)
  /-- A valid NID with DUID 0x7: PDU (R110, R327). -/
  | duid7Pdu (nac : BitVec 12) (errs : Nat)
  /-- A valid NID with the unrecognized DUID 0x8 (R111, R328). -/
  | duid8Unrecognized (nac : BitVec 12) (errs : Nat)
  /-- A valid NID with DUID 0x9: PDU (R110, R327). -/
  | duid9Pdu (nac : BitVec 12) (errs : Nat)
  /-- A valid NID with DUID 0xA: LDU2 (R110, R327). -/
  | duidALdu2 (nac : BitVec 12) (errs : Nat)
  /-- A valid NID with the unrecognized DUID 0xB (R111, R328). -/
  | duidBUnrecognized (nac : BitVec 12) (errs : Nat)
  /-- A valid NID with DUID 0xC: PDU (R110, R327). -/
  | duidCPdu (nac : BitVec 12) (errs : Nat)
  /-- A valid NID with the unrecognized DUID 0xD (R111, R328). -/
  | duidDUnrecognized (nac : BitVec 12) (errs : Nat)
  /-- A valid NID with the unrecognized DUID 0xE (R111, R328). -/
  | duidEUnrecognized (nac : BitVec 12) (errs : Nat)
  /-- A valid NID with DUID 0xF: TDULC (R110, R327). -/
  | duidFTdulc (nac : BitVec 12) (errs : Nat)
  deriving DecidableEq, Repr

end Sys2Proof
end

