-- ==== Sys2Proof/WellFormed.lean ====
section
/-!
DEFINITION. Well-formed instructions: an operand value fits its width W (30 R130, R131), and a DUID row's error
count is one the NID validator can report, 0 to 11 (10 R35). An ILLEGAL row has no condition of its own: its
constructor holds exactly the free bits of its opcode range. Commands whose W is 8·OPLEN admit every value.
-/

namespace Sys2Proof

/-- Whether a raw operand field fits the operand width `W` (R130). -/
def fitsWidth {n : Nat} (W : Nat) (v : BitVec n) : Bool := decide (v.toNat < 2 ^ W)

/-- Whether an error count is one that the NID validator reports: at most the radius 11 (R35, R161). -/
def nidErrsOk (errs : Nat) : Bool := decide (errs ≤ 11)

/-- The check of one instruction. -/
def Instr.wf : Instr → Bool
  | .feed v => fitsWidth 2 v
  | .reset => true
  | .rdstat => true
  | .syncchk _ => true
  | .nidchk _ => true
  | .g23e v => fitsWidth 12 v
  | .g23d v => fitsWidth 23 v
  | .g24e v => fitsWidth 12 v
  | .g24d _ => true
  | .g18e v => fitsWidth 6 v
  | .g18d v => fitsWidth 18 v
  | .b63e _ => true
  | .b63d v => fitsWidth 63 v
  | .b64e _ => true
  | .b64d _ => true
  | .h15e v => fitsWidth 11 v
  | .h15d v => fitsWidth 15 v
  | .h10e v => fitsWidth 6 v
  | .h10d v => fitsWidth 10 v
  | .c16e _ => true
  | .c16d _ => true
  | .rs2412e _ => true
  | .rs2412d _ => true
  | .rs2416e _ => true
  | .rs2416d _ => true
  | .rs3620e _ => true
  | .rs3620d _ => true
  | .t12e _ => true
  | .t12d v => fitsWidth 196 v
  | .t34e _ => true
  | .t34d v => fitsWidth 196 v
  | .bilv v => fitsWidth 196 v
  | .bdilv v => fitsWidth 196 v
  | .illegal00 => true
  | .illegal06 _ => true
  | .illegal08 _ => true
  | .illegal16 _ => true
  | .illegal1C _ => true
  | .illegal26 _ => true
  | .illegal28 _ => true
  | .illegal36 _ => true
  | .illegal38 _ => true
  | .illegal46 _ => true
  | .illegal48 _ => true
  | .illegal50 _ => true
  | .illegal60 _ => true
  | .illegal80 _ => true
  | .duid0Hdu _ errs => nidErrsOk errs
  | .duid1Unrecognized _ errs => nidErrsOk errs
  | .duid2Unrecognized _ errs => nidErrsOk errs
  | .duid3Tdu _ errs => nidErrsOk errs
  | .duid4Unrecognized _ errs => nidErrsOk errs
  | .duid5Ldu1 _ errs => nidErrsOk errs
  | .duid6Unrecognized _ errs => nidErrsOk errs
  | .duid7Pdu _ errs => nidErrsOk errs
  | .duid8Unrecognized _ errs => nidErrsOk errs
  | .duid9Pdu _ errs => nidErrsOk errs
  | .duidALdu2 _ errs => nidErrsOk errs
  | .duidBUnrecognized _ errs => nidErrsOk errs
  | .duidCPdu _ errs => nidErrsOk errs
  | .duidDUnrecognized _ errs => nidErrsOk errs
  | .duidEUnrecognized _ errs => nidErrsOk errs
  | .duidFTdulc _ errs => nidErrsOk errs

end Sys2Proof
end

