-- ==== Sys2Proof/Decode.lean ====
section
/-!
DEFINITION. The decoder and the encoder. Two encodings are read: the command words of the command port
(30 R130 to R133), and the Network ID, whose corrected DUID selects a DUID row (30 R103, R104, R110, R111).
-/

namespace Sys2Proof

/-! ## Command words -/

/-- Why no command word stands at the head of an octet stream. -/
inductive DecodeError where
  /-- No octet has been presented. -/
  | noOctet
  /-- The opcode octet is there, and fewer operand octets than its OPLEN (R130). -/
  | operandIncomplete
  deriving DecidableEq, Repr

/-- The number of octets as one big-endian value of 8·n bits (R130). -/
def octetsValue (n : Nat) (l : List Octet) : BitVec (8 * n) :=
  BitVec.ofNat (8 * n) (l.foldl (fun acc o => 256 * acc + o.toNat) 0)

/-- A value of 8·n bits as n octets, big-endian (R130). -/
def valueOctets (n : Nat) (v : BitVec (8 * n)) : List Octet :=
  (List.range n).map fun i => v.extractLsb' (8 * (n - 1 - i)) 8

/-- A command with `n` operand octets: the instruction and the octets after it (R130). -/
def withOperandOctets (n : Nat) (rest : List Octet) (make : BitVec (8 * n) → Instr) :
    Except DecodeError (Instr × List Octet) :=
  if n ≤ rest.length then .ok (make (octetsValue n (rest.take n)), rest.drop n)
  else .error .operandIncomplete

/-- An opcode outside R131, by the ranges of R132. -/
def decodeIllegal (op : Octet) : Instr :=
  if op = 0x00 then .illegal00
  else if op &&& 0xFE = 0x06 then .illegal06 (op.setWidth 1)
  else if op &&& 0xF8 = 0x08 then .illegal08 (op.setWidth 3)
  else if op &&& 0xFE = 0x16 then .illegal16 (op.setWidth 1)
  else if op &&& 0xFC = 0x1C then .illegal1C (op.setWidth 2)
  else if op &&& 0xFE = 0x26 then .illegal26 (op.setWidth 1)
  else if op &&& 0xF8 = 0x28 then .illegal28 (op.setWidth 3)
  else if op &&& 0xFE = 0x36 then .illegal36 (op.setWidth 1)
  else if op &&& 0xF8 = 0x38 then .illegal38 (op.setWidth 3)
  else if op &&& 0xFE = 0x46 then .illegal46 (op.setWidth 1)
  else if op &&& 0xF8 = 0x48 then .illegal48 (op.setWidth 3)
  else if op &&& 0xF0 = 0x50 then .illegal50 (op.setWidth 4)
  else if op &&& 0xE0 = 0x60 then .illegal60 (op.setWidth 5)
  else .illegal80 (op.setWidth 7)

/-- The instruction at the head of an octet stream, and the octets after it. The opcode octet alone gives the
length (R130); an illegal opcode takes no operand octets (R132). -/
def decode : List Octet → Except DecodeError (Instr × List Octet)
  | [] => .error .noOctet
  | op :: rest =>
    match op.toNat with
    | 0x01 => withOperandOctets 1 rest .feed
    | 0x02 => .ok (.reset, rest)
    | 0x03 => .ok (.rdstat, rest)
    | 0x04 => withOperandOctets 6 rest .syncchk
    | 0x05 => withOperandOctets 8 rest .nidchk
    | 0x10 => withOperandOctets 2 rest .g23e
    | 0x11 => withOperandOctets 3 rest .g23d
    | 0x12 => withOperandOctets 2 rest .g24e
    | 0x13 => withOperandOctets 3 rest .g24d
    | 0x14 => withOperandOctets 1 rest .g18e
    | 0x15 => withOperandOctets 3 rest .g18d
    | 0x18 => withOperandOctets 2 rest .b63e
    | 0x19 => withOperandOctets 8 rest .b63d
    | 0x1A => withOperandOctets 2 rest .b64e
    | 0x1B => withOperandOctets 8 rest .b64d
    | 0x20 => withOperandOctets 2 rest .h15e
    | 0x21 => withOperandOctets 2 rest .h15d
    | 0x22 => withOperandOctets 1 rest .h10e
    | 0x23 => withOperandOctets 2 rest .h10d
    | 0x24 => withOperandOctets 1 rest .c16e
    | 0x25 => withOperandOctets 2 rest .c16d
    | 0x30 => withOperandOctets 9 rest .rs2412e
    | 0x31 => withOperandOctets 18 rest .rs2412d
    | 0x32 => withOperandOctets 12 rest .rs2416e
    | 0x33 => withOperandOctets 18 rest .rs2416d
    | 0x34 => withOperandOctets 15 rest .rs3620e
    | 0x35 => withOperandOctets 27 rest .rs3620d
    | 0x40 => withOperandOctets 12 rest .t12e
    | 0x41 => withOperandOctets 25 rest .t12d
    | 0x42 => withOperandOctets 18 rest .t34e
    | 0x43 => withOperandOctets 25 rest .t34d
    | 0x44 => withOperandOctets 25 rest .bilv
    | 0x45 => withOperandOctets 25 rest .bdilv
    | _ => .ok (decodeIllegal op, rest)

/-! ## The Network ID -/

/-- The row of the DUID decode table for a corrected DUID (R110, R111). -/
def duidInstr (duid : BitVec 4) (nac : BitVec 12) (errs : Nat) : Instr :=
  match duid.toNat with
  | 0x0 => .duid0Hdu nac errs
  | 0x1 => .duid1Unrecognized nac errs
  | 0x2 => .duid2Unrecognized nac errs
  | 0x3 => .duid3Tdu nac errs
  | 0x4 => .duid4Unrecognized nac errs
  | 0x5 => .duid5Ldu1 nac errs
  | 0x6 => .duid6Unrecognized nac errs
  | 0x7 => .duid7Pdu nac errs
  | 0x8 => .duid8Unrecognized nac errs
  | 0x9 => .duid9Pdu nac errs
  | 0xA => .duidALdu2 nac errs
  | 0xB => .duidBUnrecognized nac errs
  | 0xC => .duidCPdu nac errs
  | 0xD => .duidDUnrecognized nac errs
  | 0xE => .duidEUnrecognized nac errs
  | _ => .duidFTdulc nac errs

/-- The DUID row that a received NID word selects: by its CORRECTED DUID, and none when it cannot be corrected
(R166, R167, R327, R328). -/
def decodeNid (nid : BitVec 64) : Option Instr :=
  match Machine.nidValidate nid with
  | .ok i _ n => some (duidInstr (i.extractLsb' 0 4) (i.extractLsb' 4 12) n)
  | .fail => none

/-- The NID codeword of a NAC and a DUID (R103, R104). -/
def nidWord (nac : BitVec 12) (duid : BitVec 4) : BitVec 64 := Machine.enc64 (nac ++ duid)

/-! ## The encoder -/

/-- The octets of an instruction: the opcode octet and the operand octets of a command, the one octet of an illegal
opcode, the eight octets of the NID codeword of a DUID row. A DUID row's error count says how the codeword was
received and has no octet. -/
def encode : Instr → List Octet
  | .feed v => 0x01 :: valueOctets 1 v
  | .reset => [0x02]
  | .rdstat => [0x03]
  | .syncchk v => 0x04 :: valueOctets 6 v
  | .nidchk v => 0x05 :: valueOctets 8 v
  | .g23e v => 0x10 :: valueOctets 2 v
  | .g23d v => 0x11 :: valueOctets 3 v
  | .g24e v => 0x12 :: valueOctets 2 v
  | .g24d v => 0x13 :: valueOctets 3 v
  | .g18e v => 0x14 :: valueOctets 1 v
  | .g18d v => 0x15 :: valueOctets 3 v
  | .b63e v => 0x18 :: valueOctets 2 v
  | .b63d v => 0x19 :: valueOctets 8 v
  | .b64e v => 0x1A :: valueOctets 2 v
  | .b64d v => 0x1B :: valueOctets 8 v
  | .h15e v => 0x20 :: valueOctets 2 v
  | .h15d v => 0x21 :: valueOctets 2 v
  | .h10e v => 0x22 :: valueOctets 1 v
  | .h10d v => 0x23 :: valueOctets 2 v
  | .c16e v => 0x24 :: valueOctets 1 v
  | .c16d v => 0x25 :: valueOctets 2 v
  | .rs2412e v => 0x30 :: valueOctets 9 v
  | .rs2412d v => 0x31 :: valueOctets 18 v
  | .rs2416e v => 0x32 :: valueOctets 12 v
  | .rs2416d v => 0x33 :: valueOctets 18 v
  | .rs3620e v => 0x34 :: valueOctets 15 v
  | .rs3620d v => 0x35 :: valueOctets 27 v
  | .t12e v => 0x40 :: valueOctets 12 v
  | .t12d v => 0x41 :: valueOctets 25 v
  | .t34e v => 0x42 :: valueOctets 18 v
  | .t34d v => 0x43 :: valueOctets 25 v
  | .bilv v => 0x44 :: valueOctets 25 v
  | .bdilv v => 0x45 :: valueOctets 25 v
  | .illegal00 => [0x00]
  | .illegal06 x => [0x06 ||| x.setWidth 8]
  | .illegal08 x => [0x08 ||| x.setWidth 8]
  | .illegal16 x => [0x16 ||| x.setWidth 8]
  | .illegal1C x => [0x1C ||| x.setWidth 8]
  | .illegal26 x => [0x26 ||| x.setWidth 8]
  | .illegal28 x => [0x28 ||| x.setWidth 8]
  | .illegal36 x => [0x36 ||| x.setWidth 8]
  | .illegal38 x => [0x38 ||| x.setWidth 8]
  | .illegal46 x => [0x46 ||| x.setWidth 8]
  | .illegal48 x => [0x48 ||| x.setWidth 8]
  | .illegal50 x => [0x50 ||| x.setWidth 8]
  | .illegal60 x => [0x60 ||| x.setWidth 8]
  | .illegal80 x => [0x80 ||| x.setWidth 8]
  | .duid0Hdu nac _ => valueOctets 8 (nidWord nac 0x0)
  | .duid1Unrecognized nac _ => valueOctets 8 (nidWord nac 0x1)
  | .duid2Unrecognized nac _ => valueOctets 8 (nidWord nac 0x2)
  | .duid3Tdu nac _ => valueOctets 8 (nidWord nac 0x3)
  | .duid4Unrecognized nac _ => valueOctets 8 (nidWord nac 0x4)
  | .duid5Ldu1 nac _ => valueOctets 8 (nidWord nac 0x5)
  | .duid6Unrecognized nac _ => valueOctets 8 (nidWord nac 0x6)
  | .duid7Pdu nac _ => valueOctets 8 (nidWord nac 0x7)
  | .duid8Unrecognized nac _ => valueOctets 8 (nidWord nac 0x8)
  | .duid9Pdu nac _ => valueOctets 8 (nidWord nac 0x9)
  | .duidALdu2 nac _ => valueOctets 8 (nidWord nac 0xA)
  | .duidBUnrecognized nac _ => valueOctets 8 (nidWord nac 0xB)
  | .duidCPdu nac _ => valueOctets 8 (nidWord nac 0xC)
  | .duidDUnrecognized nac _ => valueOctets 8 (nidWord nac 0xD)
  | .duidEUnrecognized nac _ => valueOctets 8 (nidWord nac 0xE)
  | .duidFTdulc nac _ => valueOctets 8 (nidWord nac 0xF)

/-- Whether an instruction is a DUID row: the dispatch of a NID, and no command word. -/
def Instr.isDuidRow : Instr → Bool
  | .feed _ => false
  | .reset => false
  | .rdstat => false
  | .syncchk _ => false
  | .nidchk _ => false
  | .g23e _ => false
  | .g23d _ => false
  | .g24e _ => false
  | .g24d _ => false
  | .g18e _ => false
  | .g18d _ => false
  | .b63e _ => false
  | .b63d _ => false
  | .b64e _ => false
  | .b64d _ => false
  | .h15e _ => false
  | .h15d _ => false
  | .h10e _ => false
  | .h10d _ => false
  | .c16e _ => false
  | .c16d _ => false
  | .rs2412e _ => false
  | .rs2412d _ => false
  | .rs2416e _ => false
  | .rs2416d _ => false
  | .rs3620e _ => false
  | .rs3620d _ => false
  | .t12e _ => false
  | .t12d _ => false
  | .t34e _ => false
  | .t34d _ => false
  | .bilv _ => false
  | .bdilv _ => false
  | .illegal00 => false
  | .illegal06 _ => false
  | .illegal08 _ => false
  | .illegal16 _ => false
  | .illegal1C _ => false
  | .illegal26 _ => false
  | .illegal28 _ => false
  | .illegal36 _ => false
  | .illegal38 _ => false
  | .illegal46 _ => false
  | .illegal48 _ => false
  | .illegal50 _ => false
  | .illegal60 _ => false
  | .illegal80 _ => false
  | .duid0Hdu _ _ => true
  | .duid1Unrecognized _ _ => true
  | .duid2Unrecognized _ _ => true
  | .duid3Tdu _ _ => true
  | .duid4Unrecognized _ _ => true
  | .duid5Ldu1 _ _ => true
  | .duid6Unrecognized _ _ => true
  | .duid7Pdu _ _ => true
  | .duid8Unrecognized _ _ => true
  | .duid9Pdu _ _ => true
  | .duidALdu2 _ _ => true
  | .duidBUnrecognized _ _ => true
  | .duidCPdu _ _ => true
  | .duidDUnrecognized _ _ => true
  | .duidEUnrecognized _ _ => true
  | .duidFTdulc _ _ => true

/-! ## Table words -/

/-- The longest command word, in octets: RS3620D, 1 + 27 (R131). -/
def longestCommand : Nat := 28

/-- The octets of a table word: octet j holds bits 8j+7 to 8j of `w` where the table gives them, 0 above (the
table numbers bit 0 as the least significant of the first octet). -/
def tableOctets (nbits w : Nat) : List Octet :=
  (List.range longestCommand).map fun j => BitVec.ofNat 8 ((w % 2 ^ nbits) >>> (8 * j))

/-- The instruction the command decoder reads from a table word. The sixteen DUID rows have no command word: the
4-bit value of such a row, read as an opcode octet, is another row's opcode (notes/assumptions/9.md). -/
def decodeTableWord (nbits w : Nat) : Option Instr :=
  match decode (tableOctets nbits w) with
  | .ok (i, _) => some i
  | .error _ => none

end Sys2Proof
end

