-- ==== Sys2Proof/Machine/Control.lean ====
section
/-!
DEFINITION. The control commands (46_control.md): RESET, RDSTAT, and the fourteen rows of illegal opcodes.
-/

namespace Sys2Proof.Machine

/-- RESET: legal in every state, FAULTED included (R380). -/
def execReset (s : State) : Host.Outcome State Fault Refusal :=
  .next (respond (okResponse (0 : BitVec 1)) (resetBlock s))

/-- RDSTAT: legal in every state, and without side effect (R382). -/
def execRdstat (s : State) : Host.Outcome State Fault Refusal :=
  .next (respond (okResponse (statusWord s)) s)

/-- An illegal opcode: refused in FAULTED, otherwise ILLEGAL_OPCODE (R132, R384, R413). -/
def illegalOpcode (s : State) : Host.Outcome State Fault Refusal :=
  .next (unlessFaulted s (raiseFault .illegalOpcode s))

/-- Illegal opcode 0x00 (R132). -/
def execIllegal00 (s : State) : Host.Outcome State Fault Refusal :=
  illegalOpcode s

/-- Illegal opcodes 0x06 to 0x07 (R132). -/
def execIllegal06 (_x : BitVec 1) (s : State) : Host.Outcome State Fault Refusal :=
  illegalOpcode s

/-- Illegal opcodes 0x08 to 0x0F (R132). -/
def execIllegal08 (_x : BitVec 3) (s : State) : Host.Outcome State Fault Refusal :=
  illegalOpcode s

/-- Illegal opcodes 0x16 to 0x17 (R132). -/
def execIllegal16 (_x : BitVec 1) (s : State) : Host.Outcome State Fault Refusal :=
  illegalOpcode s

/-- Illegal opcodes 0x1C to 0x1F (R132). -/
def execIllegal1C (_x : BitVec 2) (s : State) : Host.Outcome State Fault Refusal :=
  illegalOpcode s

/-- Illegal opcodes 0x26 to 0x27 (R132). -/
def execIllegal26 (_x : BitVec 1) (s : State) : Host.Outcome State Fault Refusal :=
  illegalOpcode s

/-- Illegal opcodes 0x28 to 0x2F (R132). -/
def execIllegal28 (_x : BitVec 3) (s : State) : Host.Outcome State Fault Refusal :=
  illegalOpcode s

/-- Illegal opcodes 0x36 to 0x37 (R132). -/
def execIllegal36 (_x : BitVec 1) (s : State) : Host.Outcome State Fault Refusal :=
  illegalOpcode s

/-- Illegal opcodes 0x38 to 0x3F (R132). -/
def execIllegal38 (_x : BitVec 3) (s : State) : Host.Outcome State Fault Refusal :=
  illegalOpcode s

/-- Illegal opcodes 0x46 to 0x47 (R132). -/
def execIllegal46 (_x : BitVec 1) (s : State) : Host.Outcome State Fault Refusal :=
  illegalOpcode s

/-- Illegal opcodes 0x48 to 0x4F (R132). -/
def execIllegal48 (_x : BitVec 3) (s : State) : Host.Outcome State Fault Refusal :=
  illegalOpcode s

/-- Illegal opcodes 0x50 to 0x5F (R132). -/
def execIllegal50 (_x : BitVec 4) (s : State) : Host.Outcome State Fault Refusal :=
  illegalOpcode s

/-- Illegal opcodes 0x60 to 0x7F (R132). -/
def execIllegal60 (_x : BitVec 5) (s : State) : Host.Outcome State Fault Refusal :=
  illegalOpcode s

/-- Illegal opcodes 0x80 to 0xFF (R132). -/
def execIllegal80 (_x : BitVec 7) (s : State) : Host.Outcome State Fault Refusal :=
  illegalOpcode s

end Sys2Proof.Machine
end

