-- ==== Sys2Proof/Machine/ReedSolomon.lean ====
section
/-!
DEFINITION. The Reed-Solomon codes over GF(64) (41_reed_solomon.md): the field, the systematic encoder, a
bounded-distance decoder by linear algebra, and the commands that expose them.
-/

namespace Sys2Proof.Machine

/-! ## The field -/

/-- The product of two polynomials over GF(2) of degree at most 5. -/
def polyMul64 (a b : Hexbit) : BitVec 11 :=
  (List.range 6).foldl (fun acc i => if b.getLsbD i then acc ^^^ (a.setWidth 11 <<< i) else acc) 0

/-- A polynomial of degree at most 10 reduced modulo `GF64_POLY`, the coefficients from x^(k+5) down. -/
def reduce64 : Nat → BitVec 11 → BitVec 11
  | 0, a => a
  | k + 1, a => reduce64 k (if a.getLsbD (6 + k) then a ^^^ (gf64Poly <<< k) else a)

/-- Multiplication in GF(64) (R200). -/
def gfMul (a b : Hexbit) : Hexbit := (reduce64 5 (polyMul64 a b)).setWidth 6

/-- Powers in GF(64). -/
def gfPow (a : Hexbit) : Nat → Hexbit
  | 0 => 1
  | n + 1 => gfMul a (gfPow a n)

/-- α, the root of `GF64_POLY` (R200). -/
def gfAlpha : Hexbit := 2

/-- The inverse of a nonzero element: a^62, since a^63 = 1. -/
def gfInv (a : Hexbit) : Hexbit := gfPow a 62

/-- Σ aᵢ·bᵢ over two rows. -/
def gfDot : List Hexbit → List Hexbit → Hexbit
  | a :: as, b :: bs => gfMul a b ^^^ gfDot as bs
  | _, _ => 0

/-- A polynomial at a point by Horner's rule, the highest coefficient first. -/
def gfEval (p : List Hexbit) (x : Hexbit) : Hexbit := p.foldl (fun acc c => gfMul acc x ^^^ c) 0

/-! ## The encoder -/

/-- The generator g(x) with `r` roots α^RS_B, … (R201), the highest coefficient first. -/
def rsGenerator : Nat → List Hexbit
  | 0 => [1]
  | j + 1 =>
    let g := rsGenerator j
    List.zipWith (· ^^^ ·) (g ++ [0]) (0 :: g.map (gfMul (gfPow gfAlpha (rsFirstRoot + j))))

/-- Adds a polynomial to the leading coefficients of another. -/
def addLeading : List Hexbit → List Hexbit → List Hexbit
  | a :: as, b :: bs => (a ^^^ b) :: addLeading as bs
  | as, _ => as

/-- `k` steps of the division of `a` by the monic `g`, both highest coefficient first: the remainder (R201). -/
def gfPolyRem (g : List Hexbit) : Nat → List Hexbit → List Hexbit
  | 0, a => a
  | _ + 1, [] => []
  | k + 1, lead :: rest => gfPolyRem g k (addLeading rest ((g.drop 1).map (gfMul lead)))

/-- `encRS` of a message, with `r` parity symbols: the message, then m(x)·x^r mod g(x) (R201). -/
def rsEncode (r : Nat) (m : List Hexbit) : List Hexbit :=
  m ++ gfPolyRem (rsGenerator r) m.length (m ++ List.replicate r 0)

/-! ## The decoder -/

/-- A nonzero vector that every one of `u` rows of length u+1 annihilates, by elimination without division:
unknown 0 is eliminated with a pivot row, the rest is solved, and both are scaled by the pivot. -/
def kernelVector : Nat → List (List Hexbit) → List Hexbit
  | 0, _ => [1]
  | u + 1, rows =>
    match rows.find? (fun row => row.headD 0 ≠ 0) with
    | none => 1 :: List.replicate (u + 1) 0
    | some pivot =>
      let p := pivot.headD 0
      let reduced := (rows.erase pivot).map fun row =>
        List.zipWith (fun a b => gfMul p a ^^^ gfMul (row.headD 0) b) (row.drop 1) (pivot.drop 1)
      let v := kernelVector u reduced
      gfDot (pivot.drop 1) v :: v.map (gfMul p)

/-- Syndrome S_j: the received word at α^(RS_B+j). -/
def rsSyndrome (word : List Hexbit) (j : Nat) : Hexbit := gfEval word (gfPow gfAlpha (rsFirstRoot + j))

/-- The locator of position i in a word of length n: α^(n-1-i), since symbol 0 is the coefficient of x^(n-1)
(R201). -/
def rsLocator (n i : Nat) : Hexbit := gfPow gfAlpha (n - 1 - i)

/-- The candidate error positions: the roots, among the locators, of a nonzero polynomial Λ(x) = Σ λᵢ·x^i of degree
at most t with Σᵢ λᵢ·S_{j+i} = 0 for t consecutive j. With at most t errors every error position is among them. -/
def rsErrorPositions (t : Nat) (word : List Hexbit) : List Nat :=
  let lam := kernelVector t ((List.range t).map fun j => (List.range (t + 1)).map fun i => rsSyndrome word (j + i))
  (List.range word.length).filter fun i => gfEval lam.reverse (rsLocator word.length i) == 0

/-- The word corrected at the given positions, by the error values that reproduce the first syndromes; unchanged
when there are none such. -/
def rsCorrectAt (positions : List Nat) (word : List Hexbit) : List Hexbit :=
  let rows := (List.range positions.length).map fun j =>
    rsSyndrome word j :: positions.map fun i => gfPow (rsLocator word.length i) (rsFirstRoot + j)
  match kernelVector positions.length rows with
  | [] => word
  | scale :: ys =>
    if scale = 0 then word
    else
      (positions.zip ys).foldl
        (fun w iy => w.set iy.1 (w.getD iy.1 0 ^^^ gfMul iy.2 (gfInv scale))) word

/-- `decRS`: symbol-level bounded-distance decoding of RS(n,k) with `r` = n-k parity symbols, at radius ⌊r/2⌋
(R201, R202). DEDUCED (notes/assumptions/12.md): the candidate is computed from the syndromes, and it is answered
only after it is checked to be a codeword within the radius. -/
def rsDecode (r : Nat) (word : List Hexbit) : Decoded (List Hexbit) (List Hexbit) :=
  let t := r / 2
  let c := rsCorrectAt (rsErrorPositions t word) word
  let m := c.take (word.length - r)
  if rsEncode r m = c ∧ sdist c word ≤ t then .ok m c (sdist c word) else .fail

/-! ## Commands -/

/-- The packed form of a decode result (R205 to R210). -/
def rsPacked (kBits nBits : Nat) : Decoded (List Hexbit) (List Hexbit) → Decoded (BitVec kBits) (BitVec nBits)
  | .ok m c n => .ok (pack kBits m) (pack nBits c) n
  | .fail => .fail

/-- RS2412E (R205). -/
def execRs2412e (v : BitVec 72) (s : State) : Host.Outcome State Fault Refusal :=
  pureCommand 72 v (fun m => okResponse (pack 144 (rsEncode 12 (unpack 6 12 m)))) s

/-- RS2412D (R206). -/
def execRs2412d (v : BitVec 144) (s : State) : Host.Outcome State Fault Refusal :=
  pureCommand 144 v (fun r => decodedResponse (rsPacked 72 144 (rsDecode 12 (unpack 6 24 r)))) s

/-- RS2416E (R207). -/
def execRs2416e (v : BitVec 96) (s : State) : Host.Outcome State Fault Refusal :=
  pureCommand 96 v (fun m => okResponse (pack 144 (rsEncode 8 (unpack 6 16 m)))) s

/-- RS2416D (R208). -/
def execRs2416d (v : BitVec 144) (s : State) : Host.Outcome State Fault Refusal :=
  pureCommand 144 v (fun r => decodedResponse (rsPacked 96 144 (rsDecode 8 (unpack 6 24 r)))) s

/-- RS3620E (R209). -/
def execRs3620e (v : BitVec 120) (s : State) : Host.Outcome State Fault Refusal :=
  pureCommand 120 v (fun m => okResponse (pack 216 (rsEncode 16 (unpack 6 20 m)))) s

/-- RS3620D (R210). -/
def execRs3620d (v : BitVec 216) (s : State) : Host.Outcome State Fault Refusal :=
  pureCommand 216 v (fun r => decodedResponse (rsPacked 120 216 (rsDecode 16 (unpack 6 36 r)))) s

end Sys2Proof.Machine
end

