-- ==== Sys2Proof/Machine/Trellis.lean ====
section
/-!
DEFINITION. The trellis codes and the block interleaver (42_trellis_interleave.md), and the commands that expose
them.
-/

namespace Sys2Proof.Machine

/-! ## The trellis -/

/-- `NEXT[s][x]` of a table given row by row (R230). -/
def nextCodeword {b : Nat} (rows : List (List Nibble)) (s x : BitVec b) : Nibble :=
  (rows.getD s.toNat []).getD x.toNat 0

/-- The codewords of an input from state `s`; the next state is the input (R230). -/
def trellisFrom {b : Nat} (rows : List (List Nibble)) (s : BitVec b) : List (BitVec b) → List Nibble
  | [] => []
  | x :: xs => nextCodeword rows s x :: trellisFrom rows x xs

/-- `trellisEnc`: the information symbols, then the flush symbol 0, from state 0 (R230). -/
def trellisEncode {b : Nat} (rows : List (List Nibble)) (xs : List (BitVec b)) : List Nibble :=
  trellisFrom rows 0 (xs ++ [0])

/-- Every input symbol, in ascending order. -/
def allSymbols (b : Nat) : List (BitVec b) := (List.range (2 ^ b)).map (BitVec.ofNat b)

/-- The smallest distance from a codeword to a state's candidates (R234). -/
def leastDistance {b : Nat} (rows : List (List Nibble)) (s : BitVec b) (w : Nibble) : Nat :=
  (allSymbols b).foldl (fun least x => min least (dist w (nextCodeword rows s x))) 4

/-- The inputs of a state whose candidates are at the smallest distance (R234). -/
def nearestInputs {b : Nat} (rows : List (List Nibble)) (s : BitVec b) (w : Nibble) : List (BitVec b) :=
  (allSymbols b).filter fun x => dist w (nextCodeword rows s x) == leastDistance rows s w

/-- The decoder's steps from state `s`: the inputs and the error count, or none on a tie (R234). -/
def trellisSteps {b : Nat} (rows : List (List Nibble)) (s : BitVec b) : List Nibble → Option (List (BitVec b) × Nat)
  | [] => some ([], 0)
  | w :: ws =>
    match nearestInputs rows s w with
    | [x] =>
      match trellisSteps rows x ws with
      | some (ys, errs) => some (x :: ys, leastDistance rows s w + errs)
      | none => none
    | _ => none

/-- `trellisDec`: the last decoded symbol, the flush, is not checked and not answered (R234). -/
def trellisDecode {b : Nat} (rows : List (List Nibble)) (ws : List Nibble) :
    Decoded (List (BitVec b)) (List Nibble) :=
  match trellisSteps rows (0 : BitVec b) ws with
  | some (ys, errs) => .ok ys.dropLast (trellisEncode rows ys.dropLast) errs
  | none => .fail

/-! ## The block interleaver -/

/-- The bit positions `4·ILV(k)+j` for k in 0..48, j in 0..3 (R241). -/
def ilvPositions : List Nat := blockIlv.flatMap fun p => span (4 * p) 4

/-- BDILV on a bit sequence: the gather of R241. -/
def deinterleaveBits (t : Bits) : Except FaultCause Nat := gather t ilvPositions

/-- BILV on a block's bits: `t[4·ILV(k)+j] = u[4k+j]`, the scatter inverse to R241 (R242). -/
def interleaveBits (u : BitVec 196) : Except FaultCause Bits :=
  scatter (List.replicate blockBits false) ilvPositions u.toNat

/-! ## Commands -/

/-- The packed form of a decode result (R236, R238). -/
def trellisPacked {b : Nat} (kBits : Nat) :
    Decoded (List (BitVec b)) (List Nibble) → Decoded (BitVec kBits) (BitVec 196)
  | .ok y c n => .ok (pack kBits y) (pack 196 c) n
  | .fail => .fail

/-- T12E (R235). -/
def execT12e (v : BitVec 96) (s : State) : Host.Outcome State Fault Refusal :=
  pureCommand 96 v (fun x => okResponse (pack 196 (trellisEncode trellis12Rows (unpack 2 48 x)))) s

/-- T12D (R236). -/
def execT12d (v : BitVec 200) (s : State) : Host.Outcome State Fault Refusal :=
  pureCommand 196 v
    (fun w => decodedResponse (trellisPacked (b := 2) 96 (trellisDecode trellis12Rows (unpack 4 49 w)))) s

/-- T34E (R237). -/
def execT34e (v : BitVec 144) (s : State) : Host.Outcome State Fault Refusal :=
  pureCommand 144 v (fun x => okResponse (pack 196 (trellisEncode trellis34Rows (unpack 3 48 x)))) s

/-- T34D (R238). -/
def execT34d (v : BitVec 200) (s : State) : Host.Outcome State Fault Refusal :=
  pureCommand 196 v
    (fun w => decodedResponse (trellisPacked (b := 3) 144 (trellisDecode trellis34Rows (unpack 4 49 w)))) s

/-- The outcome of a command whose work may raise INDEX_RANGE (R65 to R67, R413). -/
def finishOrFault (s : State) : Except FaultCause Response → State
  | .ok r => respond r s
  | .error c => raiseFault c s

/-- BILV (R242). -/
def execBilv (v : BitVec 200) (s : State) : Host.Outcome State Fault Refusal :=
  .next (withOperand 196 v s fun u =>
    finishOrFault s ((interleaveBits u).map fun t => okResponse (BitVec.ofNat 196 (int t))))

/-- BDILV (R243). -/
def execBdilv (v : BitVec 200) (s : State) : Host.Outcome State Fault Refusal :=
  .next (withOperand 196 v s fun t =>
    finishOrFault s ((deinterleaveBits (bitsOf t)).map fun u => okResponse (BitVec.ofNat 196 u)))

end Sys2Proof.Machine
end

