-- ==== Sys2Proof/Machine/Voice.lean ====
section
/-!
DEFINITION. Voice codeword extraction (45_voice.md): the nine slots, their deinterleaving, and the optional IMBE
FEC, which is off under the decided `IMBE_FEC = false` (R362) and modelled for the other setting.
-/

namespace Sys2Proof.Machine

/-- The positions of voice slot i's codeword bits, codeword bit 0 first (R361). -/
def voicePositions (slot : Nat) : List Nat := voicePerm.map (slot + ·)

/-- `voiceRaw`: the 144-bit codeword of the slot that begins at data bit `slot` (R361). -/
def voiceRaw (dbits : Bits) (slot : Nat) : Except FaultCause (BitVec 144) :=
  (gather dbits (voicePositions slot)).map (BitVec.ofNat 144)

/-- The information bits and error count of a decode by a perfect code. Both codes of R364 are perfect, so the
second case does not arise (40 R152, R170); it hands the received information bits on. -/
def perfectResult {k n : Nat} (received : BitVec k) : Decoded (BitVec k) (BitVec n) → BitVec k × Nat
  | .ok m _ e => (m, e)
  | .fail => (received, 0)

/-- Golay(23,12) of one IMBE vector (R364). -/
def imbeGolay (c : BitVec 23) : BitVec 12 × Nat := perfectResult (c.extractLsb' 11 12) (dec23 c)

/-- Hamming(15,11) of one IMBE vector (R364). -/
def imbeHamming (c : BitVec 15) : BitVec 11 × Nat := perfectResult (c.extractLsb' 4 11) (decH15 c)

/-- The IMBE FEC procedure on the 144 raw bits, bit 0 of R363 being the most significant: the 88 information bits
and the error count (R363, R364). -/
def imbeDecode (u : BitVec 144) : BitVec 88 × Nat :=
  let r0 := imbeGolay (u.extractLsb' 121 23)
  let body : BitVec 114 := u.extractLsb' 7 114 ^^^ Config.imbeDescramble r0.1
  let r1 := imbeGolay (body.extractLsb' 91 23)
  let r2 := imbeGolay (body.extractLsb' 68 23)
  let r3 := imbeGolay (body.extractLsb' 45 23)
  let r4 := imbeHamming (body.extractLsb' 30 15)
  let r5 := imbeHamming (body.extractLsb' 15 15)
  let r6 := imbeHamming (body.extractLsb' 0 15)
  (r0.1 ++ r1.1 ++ r2.1 ++ r3.1 ++ r4.1 ++ r5.1 ++ r6.1 ++ u.extractLsb' 0 7,
   r0.2 + r1.2 + r2.2 + r3.2 + r4.2 + r5.2 + r6.2)

/-- Whether an error count exceeds `VOICE_DEGRADE_ERRS`, infinity being none (R365). -/
def exceeds (verrs : Nat) : Option Nat → Bool
  | some threshold => decide (threshold < verrs)
  | none => false

/-- The voice entry of a raw codeword, for settings of `IMBE_FEC` and `VOICE_DEGRADE_ERRS` (R362, R365). -/
def voiceEntryWith (fec : Bool) (degrade : Option Nat) (raw : BitVec 144) : VoiceEntry :=
  if fec then
    let r := imbeDecode raw
    if exceeds r.2 degrade then { raw := 0, vstatus := .degraded, info := 0, verrs := r.2 }
    else { raw := raw, vstatus := .ok, info := r.1, verrs := r.2 }
  else { raw := raw, vstatus := .raw, info := 0, verrs := 0 }

/-- The voice entry of a raw codeword (R362). -/
def voiceEntry (raw : BitVec 144) : VoiceEntry := voiceEntryWith imbeFec voiceDegradeErrs raw

/-- The voice entries of the slots, in slot order (R362, R367). -/
def voiceEntries (dbits : Bits) : List Nat → Except FaultCause (List VoiceEntry)
  | [] => .ok []
  | slot :: rest => do
    let raw ← voiceRaw dbits slot
    let entries ← voiceEntries dbits rest
    return voiceEntry raw :: entries

end Sys2Proof.Machine
end

