-- ==== Sys2Proof/Machine/DataUnits.lean ====
section
/-!
DEFINITION. The Data Units (43_data_units.md): sizes, creation, `extend`, `isComplete`, the decode pipelines of the
six variants, and the output record. They run inside FEED.
-/

namespace Sys2Proof.Machine

/-! ## Variants and sizes -/

/-- The DUID decode table: the variant of a recognized DUID (R110). -/
def variantOf (duid : BitVec 4) : Option Variant :=
  match duid.toNat with
  | 0x0 => some .hdu
  | 0x3 => some .tdu
  | 0x5 => some .ldu1
  | 0x7 => some .pdu
  | 0x9 => some .pdu
  | 0xA => some .ldu2
  | 0xC => some .pdu
  | 0xF => some .tdulc
  | _ => none

/-- `SIZE(v)` of the fixed-size variants, in dibits from frame position 0; none for a PDU (R266). -/
def fixedSize : Variant → Option Nat
  | .tdu => some sizeTdu
  | .tdulc => some sizeTdulc
  | .hdu => some sizeHdu
  | .ldu1 => some sizeLdu
  | .ldu2 => some sizeLdu
  | .pdu => none

/-- The record a unit is created as (R261). -/
def newUnit (variant : Variant) (duid : BitVec 4) (nac : BitVec 12) (nidCw : BitVec 64) (nidErrs : Nat) : DataUnit :=
  { variant := variant, duid := duid, nac := nac, nidCw := nidCw, nidErrs := nidErrs,
    life := .accumulating, blocks := [], total := none }

/-- `isComplete`, with `pos` the frame position (R264). -/
def isComplete (pos : Nat) (u : DataUnit) : Bool :=
  match fixedSize u.variant with
  | some size => pos == size
  | none => u.total == some u.blocks.length

/-! ## PDU blocks -/

/-- Octet i of a block, counted from 0. -/
def Block.octet (b : Block) (i : Nat) : Octet := b.octets.getD i 0

/-- `PDU_TOTAL_BLOCKS` for a setting of `HEADER_ONLY`, from the DUID and the blocks decoded so far (R287). The
header `H` is the first block, `B` the last. -/
def pduTotalWith (headerOnly : Bool) (duid : BitVec 4) (blocks : List Block) : Option Nat :=
  match blocks.head?, blocks.getLast? with
  | some H, some B =>
    if H.status = .fail then some 1
    else if duid = 0x7 ∧ headerOnly = false then
      if B.status = .fail ∨ (B.octet 0).getLsbD 7 = true ∨ blocks.length = 3 then some blocks.length else none
    else some (1 + (H.octet 6 &&& 0x7F).toNat)
  | _, _ => none

/-- `PDU_TOTAL_BLOCKS` (R287). -/
def pduTotal (duid : BitVec 4) (blocks : List Block) : Option Nat := pduTotalWith pduHeaderOnly duid blocks

/-- `H.octets[0] & 0x1F`, the format of a header block (R288, R290). -/
def pduFormat (H : Block) : BitVec 5 := (H.octet 0).setWidth 5

/-- `PDU_RATE`: only confirmed data (format 0x16) of a DUID other than 0x7 is at rate 3/4 (R288). -/
def pduRate (duid : BitVec 4) (H : Block) : Rate :=
  if duid = 0x7 then .half
  else if pduFormat H = 0x16 then .threeQuarters
  else .half

/-- The rate of the block that follows `blocks`; block 0 is at rate 1/2 (R285, R286). -/
def nextRate (duid : BitVec 4) (blocks : List Block) : Rate :=
  match blocks.head? with
  | some H => pduRate duid H
  | none => .half

/-- How many octets a block of a rate carries (R286). -/
def rateOctets : Rate → Nat
  | .half => 12
  | .threeQuarters => 18

/-- The octets, the codewords and the error count of a trellis decode, whatever the symbol width (R286). -/
def symbolOctets {b : Nat} : Decoded (List (BitVec b)) (List Nibble) → Decoded (List Octet) (List Nibble)
  | .ok y c n => .ok (octets (symbolBits y)) c n
  | .fail => .fail

/-- `trellisDec(NEXT(rate), ·)` with the information symbols packed into octets (R286). -/
def decodeAtRate (rate : Rate) (ws : List Nibble) : Decoded (List Octet) (List Nibble) :=
  match rate with
  | .half => symbolOctets (b := 2) (trellisDecode trellis12Rows ws)
  | .threeQuarters => symbolOctets (b := 3) (trellisDecode trellis34Rows ws)

/-- One PDU block from its 196 bits as received (R286). -/
def decodeBlock (rate : Rate) (t : BitVec 196) : Except FaultCause Block := do
  let u ← deinterleaveBits (bitsOf t)
  match decodeAtRate rate (unpack 4 49 (BitVec.ofNat 196 u)) with
  | .ok os c n =>
    let cw ← interleaveBits (pack 196 c)
    return { status := .ok, rate := rate, octets := os, errs := n, cw := BitVec.ofNat 196 (int cw) }
  | .fail => return { status := .fail, rate := rate, octets := List.replicate (rateOctets rate) 0, errs := 0, cw := t }

/-- `pduStep`, with the frame buffer that already holds the dibit (R286). -/
def pduStep (fbuf : List Dibit) (u : DataUnit) : Except FaultCause DataUnit :=
  let pos := fbuf.length
  let k := u.blocks.length
  if isStatus (pos - 1) then .ok u
  else if ndata pos ≠ 56 + 98 * (k + 1) then .ok u
  else do
    let t ← extract (dataBits fbuf) (bodyStart + blockBits * k) (bodyStart + blockBits * (k + 1))
    let blk ← decodeBlock (nextRate u.duid u.blocks) (BitVec.ofNat 196 t)
    let blocks := u.blocks ++ [blk]
    return { u with blocks := blocks, total := pduTotal u.duid blocks }

/-- `extend`: the frame buffer with the dibit, and the unit after it (R263). -/
def extend (d : Dibit) (fbuf : List Dibit) (u : DataUnit) : Except FaultCause (List Dibit × DataUnit) :=
  if u.life ≠ .accumulating then .error .protocolExtendComplete
  else
    let fbuf' := fbuf ++ [d]
    if u.variant = .pdu then (pduStep fbuf' u).map fun u' => (fbuf', u')
    else .ok (fbuf', u)

/-! ## Inner codes -/

/-- What the inner decodes of a unit accumulate: the data bits with the corrections written back, the sum of the
bit errors, and the count of failed codewords (R269, R302). -/
structure InnerAcc where
  dbits : Bits
  errs : Nat
  fails : Nat
  deriving DecidableEq, Repr

/-- One inner codeword at the given positions: its information bits, corrected and written back when it decodes,
as received when it fails (R269). -/
def innerDecode {k n : Nat} (dec : BitVec n → Decoded (BitVec k) (BitVec n)) (idx : List Nat) (acc : InnerAcc) :
    Except FaultCause (BitVec k × InnerAcc) := do
  let received ← gather acc.dbits idx
  let r := BitVec.ofNat n received
  match dec r with
  | .ok m c e =>
    let dbits ← scatter acc.dbits idx c.toNat
    return (m, { acc with dbits := dbits, errs := acc.errs + e })
  | .fail => return (r.extractLsb' (n - k) k, { acc with fails := acc.fails + 1 })

/-- The inner codewords of a unit, in order (R271, R278, R282). -/
def innerDecodeAll {k n : Nat} (dec : BitVec n → Decoded (BitVec k) (BitVec n)) :
    List (List Nat) → InnerAcc → Except FaultCause (List (BitVec k) × InnerAcc)
  | [], acc => .ok ([], acc)
  | idx :: rest, acc => do
    let (m, acc') ← innerDecode dec idx acc
    let (ms, acc'') ← innerDecodeAll dec rest acc'
    return (m :: ms, acc'')

/-- The positions of the 36 Golay(18,6) codewords of an HDU (R117, R271). -/
def hduCodewords : List (List Nat) := (List.range 36).map fun i => span (bodyStart + 18 * i) 18

/-- The positions of the 12 Golay(24,12) codewords of a TDULC (R120, R282). -/
def tdulcCodewords : List (List Nat) := (List.range 12).map fun i => span (bodyStart + 24 * i) 24

/-- The positions of the 24 Hamming(10,6) codewords of an LDU: `LPOS(j)`, ten by ten of the six 40-bit segments
(R278). -/
def lduCodewords : List (List Nat) :=
  (List.range 24).map fun j => span (lduSegments.getD (j / 4) 0 + 10 * (j % 4)) 10

/-! ## Outer codes and fields -/

/-- An outer Reed-Solomon field of `w` bits: its bits, its status and its symbol errors; the bits are zero when the
decode fails (R272, R275, R279, R280, R282). `failErrs` is the count of a decode that fails, which is each field's
own: `noErrs` where the rule states it, `Config.esErrsOnFail` where it does not. -/
def outerDecode (w r : Nat) (failErrs : List Hexbit → Nat) (hs : List Hexbit) : BitVec w × FieldStatus × Nat :=
  match rsDecode r hs with
  | .ok m _ n => (BitVec.ofNat w (int (symbolBits m)), .ok, n)
  | .fail => (0, .fail, failErrs hs)

/-- The symbol errors of a failed HDU header or LC: 0 (R272, R279, R282). -/
def noErrs (_ : List Hexbit) : Nat := 0

/-- The two hexbits of a Golay(24,12) codeword, the high half first (R120, R282). -/
def hexbitPair (w : BitVec 12) : List Hexbit := [w.extractLsb' 6 6, w.extractLsb' 0 6]

/-- What a variant's pipeline gives: the corrected data bits, the fields and the payload (R300, R301). -/
structure Decoding where
  dbits : Bits
  fields : Fields
  payload : List Octet
  deriving DecidableEq, Repr

/-- The inner accumulator before the first inner codeword. -/
def startInner (dbits : Bits) : InnerAcc := { dbits := dbits, errs := 0, fails := 0 }

/-- HDU (R271 to R273). -/
def decodeHdu (dbits : Bits) : Except FaultCause Decoding := do
  let (hs, acc) ← innerDecodeAll dec18 hduCodewords (startInner dbits)
  let (hdr, status, rsErrs) := outerDecode 120 16 noErrs hs
  let hdrBits := bitsOf hdr
  let mi ← extract hdrBits 0 72
  let mfid ← extract hdrBits 72 80
  let algid ← extract hdrBits 80 88
  let kid ← extract hdrBits 88 104
  let tgid ← extract hdrBits 104 120
  return {
    dbits := acc.dbits
    fields := .hdu {
      mi := BitVec.ofNat 72 mi, mfid := BitVec.ofNat 8 mfid, algid := BitVec.ofNat 8 algid,
      kid := BitVec.ofNat 16 kid, tgid := BitVec.ofNat 16 tgid,
      hdrStatus := status, hdrRsErrs := rsErrs, innerErrs := acc.errs, innerFail := acc.fails }
    payload := octets hdrBits }

/-- One LSD codeword at data bit `a` (R281). -/
def decodeLsd (dbits : Bits) (a : Nat) : Except FaultCause (LsdEntry × Bits) := do
  let r ← extract dbits a (a + 16)
  match decC16 (BitVec.ofNat 16 r) with
  | .ok m c n =>
    let dbits' ← scatter dbits (span a 16) c.toNat
    return ({ value := m, status := .ok, errs := n }, dbits')
  | .fail => return ({ value := 0, status := .fail, errs := 0 }, dbits)

/-- The LSD codewords, in order (R281). -/
def decodeLsdAll : List Nat → Bits → Except FaultCause (List LsdEntry × Bits)
  | [], dbits => .ok ([], dbits)
  | a :: rest, dbits => do
    let (e, dbits') ← decodeLsd dbits a
    let (es, dbits'') ← decodeLsdAll rest dbits'
    return (e :: es, dbits'')

/-- The LSD and voice octets of an LDU payload (R301). -/
def lduTail (lsd : List LsdEntry) (voice : List VoiceEntry) : List Octet :=
  lsd.map (·.value) ++ voice.flatMap fun v => octets (bitsOf v.raw)

/-- LDU1 (R278, R279, R281, R362). -/
def decodeLdu1 (dbits : Bits) : Except FaultCause Decoding := do
  let (hs, acc) ← innerDecodeAll decH10 lduCodewords (startInner dbits)
  let (lc, status, rsErrs) := outerDecode 72 12 noErrs hs
  let (lsd, dbits') ← decodeLsdAll lsdStarts acc.dbits
  let voice ← voiceEntries dbits' voiceSlots
  return {
    dbits := dbits'
    fields := .ldu1 {
      lc := lc, lcStatus := status, lcRsErrs := rsErrs, innerErrs := acc.errs, innerFail := acc.fails,
      lsd := lsd, voice := voice }
    payload := octets (bitsOf lc) ++ lduTail lsd voice }

/-- LDU2 (R278, R280, R281, R362). DESIGN CHOICE: R280 states no `es_rs_errs` for a decode that fails, and the count
is a free value (notes/assumptions/21.md). -/
def decodeLdu2 (dbits : Bits) : Except FaultCause Decoding := do
  let (hs, acc) ← innerDecodeAll decH10 lduCodewords (startInner dbits)
  let (es, status, rsErrs) := outerDecode 96 8 Config.esErrsOnFail hs
  let esBits := bitsOf es
  let mi ← extract esBits 0 72
  let algid ← extract esBits 72 80
  let kid ← extract esBits 80 96
  let (lsd, dbits') ← decodeLsdAll lsdStarts acc.dbits
  let voice ← voiceEntries dbits' voiceSlots
  return {
    dbits := dbits'
    fields := .ldu2 {
      mi := BitVec.ofNat 72 mi, algid := BitVec.ofNat 8 algid, kid := BitVec.ofNat 16 kid,
      esStatus := status, esRsErrs := rsErrs, innerErrs := acc.errs, innerFail := acc.fails,
      lsd := lsd, voice := voice }
    payload := octets esBits ++ lduTail lsd voice }

/-- TDULC (R282). -/
def decodeTdulc (dbits : Bits) : Except FaultCause Decoding := do
  let (ws, acc) ← innerDecodeAll dec24 tdulcCodewords (startInner dbits)
  let (lc, status, rsErrs) := outerDecode 72 12 noErrs (ws.flatMap hexbitPair)
  return {
    dbits := acc.dbits
    fields := .tdulc {
      lc := lc, lcStatus := status, lcRsErrs := rsErrs, innerErrs := acc.errs, innerFail := acc.fails }
    payload := octets (bitsOf lc) }

/-- The write-back of the OK blocks of a PDU over their data bits, block k at `112 + 196k` (R290, R302). -/
def writeBlocks : Nat → List Block → Bits → Except FaultCause Bits
  | _, [], dbits => .ok dbits
  | k, b :: rest, dbits =>
    if b.status = .ok then do
      let dbits' ← scatter dbits (span (bodyStart + blockBits * k) blockBits) b.cw.toNat
      writeBlocks (k + 1) rest dbits'
    else writeBlocks (k + 1) rest dbits

/-- A block as the record lists it (R290). -/
def blockField (b : Block) : BlockField :=
  { status := b.status, rate := b.rate, octets := b.octets, errs := b.errs }

/-- `format`: the header's format, 0 when the header failed (R290). -/
def recordFormat (blocks : List Block) : BitVec 5 :=
  match blocks.head? with
  | some H => if H.status = .ok then pduFormat H else 0
  | none => 0

/-- PDU (R290). -/
def decodePdu (u : DataUnit) (dbits : Bits) : Except FaultCause Decoding := do
  let dbits' ← writeBlocks 0 u.blocks dbits
  return {
    dbits := dbits'
    fields := .pdu {
      blocks := u.blocks.map blockField, format := recordFormat u.blocks, total := u.total.getD u.blocks.length }
    payload := u.blocks.flatMap (·.octets) }

/-- TDU: no fields and no payload (R270). -/
def decodeTdu (dbits : Bits) : Except FaultCause Decoding :=
  .ok { dbits := dbits, fields := .tdu, payload := [] }

/-- The pipeline of a variant on its data bits, the NID already written back (R268). -/
def decodeVariant (u : DataUnit) (dbits : Bits) : Except FaultCause Decoding :=
  match u.variant with
  | .tdu => decodeTdu dbits
  | .hdu => decodeHdu dbits
  | .ldu1 => decodeLdu1 dbits
  | .ldu2 => decodeLdu2 dbits
  | .tdulc => decodeTdulc dbits
  | .pdu => decodePdu u dbits

/-- The record of a decoded unit (R300). -/
def recordOf (u : DataUnit) (size : Nat) (x : Decoding) : Record :=
  { variant := u.variant, duid := u.duid, nac := u.nac, nidErrs := u.nidErrs, size := size,
    dbits := x.dbits, fields := x.fields, payload := x.payload }

/-- `decode`: the record, and the unit with its life DECODED (R265, R268). -/
def decodeUnit (fbuf : List Dibit) (u : DataUnit) : Except FaultCause (Record × DataUnit) :=
  if u.life ≠ .complete then .error .protocolDecodeIncomplete
  else do
    let dbits ← scatter (dataBits fbuf) (span 48 64) u.nidCw.toNat
    let x ← decodeVariant u dbits
    return (recordOf u fbuf.length x, { u with life := .decoded })

end Sys2Proof.Machine
end

