-- ==== Sys2Proof/Machine/Framer.lean ====
section
/-!
DEFINITION. The frame synchronizer (44_framer.md): FEED and its three steps, the dispatch of a valid NID with the
sixteen DUID rows, and SYNCCHK.
-/

namespace Sys2Proof.Machine

/-! ## SEARCHING -/

/-- Whether a window correlates with the frame sync constant (R102). -/
def correlates (w : BitVec 48) : Bool := decide (dist w frameSync < syncThreshold)

/-- The window shift (R321). -/
def shiftWindow (w : BitVec 48) (d : Dibit) : BitVec 48 := (w <<< 2) ||| d.setWidth 48

/-- The 24 dibits of a window, oldest first (R324). -/
def windowDibits (w : BitVec 48) : List Dibit := unpack 2 24 w

/-- A FEED in SEARCHING (R321, R322, R324). -/
def searchStep (d : Dibit) (s : State) : State × Event :=
  let w := shiftWindow s.window d
  if correlates w then
    ({ s with window := w, fbuf := windowDibits w, st := .identifying }, .sync)
  else ({ s with window := w }, .none)

/-! ## IDENTIFYING -/

/-- The NID of a frame buffer: data bits 48 to 111 (R103, R326). -/
def frameNid (fbuf : List Dibit) : Except FaultCause (BitVec 64) :=
  (extract (dataBits fbuf) 48 112).map (BitVec.ofNat 64)

/-- The rejection of a candidate frame (R326, R328). -/
def rejectCandidate (s : State) : State := enterSearching (countUnrecognized s)

/-- The dispatch of a valid NID: a unit for a recognized DUID, a rejection for any other (R327, R328). -/
def dispatchNid (duid : BitVec 4) (nac : BitVec 12) (nidCw : BitVec 64) (errs : Nat) (s : State) : State × Event :=
  match variantOf duid with
  | some variant => ({ s with unit := some (newUnit variant duid nac nidCw errs), st := .reading }, .none)
  | none => (rejectCandidate s, .unrecognized)

/-- The NID step, on the state whose frame buffer holds the 57th dibit (R326 to R328). -/
def nidStep (s : State) : Except FaultCause (State × Event) := do
  let nid ← frameNid s.fbuf
  match nidValidate nid with
  | .ok i c n => return dispatchNid (i.extractLsb' 0 4) (i.extractLsb' 4 12) c n s
  | .fail => return (rejectCandidate s, .nidFail)

/-- A FEED in IDENTIFYING (R325, R326). -/
def identifyStep (d : Dibit) (s : State) : Except FaultCause (State × Event) :=
  let s' := { s with fbuf := s.fbuf ++ [d] }
  if s'.pos = 57 then nidStep s' else .ok (s', .none)

/-! ## READING -/

/-- The completion of a unit: decode, emit, and back to SEARCHING (R331). -/
def completeUnit (fbuf : List Dibit) (u : DataUnit) (s : State) : Except FaultCause (State × Event) := do
  let (r, _) ← decodeUnit fbuf { u with life := .complete }
  return (enterSearching (emit r s), .emitted)

/-- A FEED in READING (R329 to R331). A state that is READING without a unit breaks R35 and is reached by no
command; `extend` then has nothing that accumulates, and the extend assertion of R263 is raised (DESIGN CHOICE,
notes/assumptions/10.md). -/
def readStep (d : Dibit) (s : State) : Except FaultCause (State × Event) :=
  match s.unit with
  | none => .error .protocolExtendComplete
  | some u => do
    let (fbuf, u') ← extend d s.fbuf u
    if isComplete fbuf.length u' then completeUnit fbuf u' s
    else return ({ s with fbuf := fbuf, unit := some u' }, .none)

/-! ## FEED -/

/-- One framer step by state (R320). FEED refuses before this in FAULTED (R411), so the last case changes
nothing. -/
def feedStep (d : Dibit) (s : State) : Except FaultCause (State × Event) :=
  match s.st with
  | .searching => .ok (searchStep d s)
  | .identifying => identifyStep d s
  | .reading => readStep d s
  | .faulted => .ok (s, .none)

/-- The state after a framer step that ended with an event: the response reports the event and the new `st` (R320). -/
def feedDone (r : State × Event) : State := respond (feedResponse r.2 r.1.st) r.1

/-- FEED on a legal dibit: the step, or the fault it raised with nothing else changed (R320, R410). -/
def feedDibit (s : State) (d : Dibit) : State :=
  match feedStep d s with
  | .ok r => feedDone r
  | .error c => raiseFault c s

/-- FEED (R320). -/
def execFeed (v : BitVec 8) (s : State) : Host.Outcome State Fault Refusal :=
  .next (withOperand 2 v s (feedDibit s))

/-! ## SYNCCHK -/

/-- The value of SYNCCHK: the correlate bit, then the distance in 6 bits (R335). -/
def syncValue (w : BitVec 48) : BitVec 7 :=
  ((if correlates w then 1 else 0) <<< 6) ||| BitVec.ofNat 7 (dist w frameSync)

/-- SYNCCHK (R335). -/
def execSyncchk (v : BitVec 48) (s : State) : Host.Outcome State Fault Refusal :=
  pureCommand 48 v (fun w => okResponse (syncValue w)) s

/-! ## The DUID rows -/

/-- A DUID row: the dispatch of a valid NID with the row's DUID, as it ends the FEED that supplies frame position
56 (R327, R328). It acts on the state inside that FEED, with the 57th dibit appended; the spec gives it no effect
elsewhere (notes/assumptions/9.md). The corrected NID codeword is the one of the NAC and the DUID (R104, R166). -/
def duidRow (duid : BitVec 4) (nac : BitVec 12) (errs : Nat) (s : State) : Host.Outcome State Fault Refusal :=
  if s.st = .identifying ∧ s.pos = 57 then
    .next (feedDone (dispatchNid duid nac (enc64 (nac ++ duid)) errs s))
  else .fault .notAtNidStep

/-- The dispatch of DUID 0x0, HDU: a unit is created (R110, R327). -/
def execDuid0Hdu (nac : BitVec 12) (errs : Nat) (s : State) : Host.Outcome State Fault Refusal :=
  duidRow 0x0 nac errs s

/-- The dispatch of DUID 0x1, unrecognized: the candidate is rejected (R111, R328). -/
def execDuid1Unrecognized (nac : BitVec 12) (errs : Nat) (s : State) : Host.Outcome State Fault Refusal :=
  duidRow 0x1 nac errs s

/-- The dispatch of DUID 0x2, unrecognized: the candidate is rejected (R111, R328). -/
def execDuid2Unrecognized (nac : BitVec 12) (errs : Nat) (s : State) : Host.Outcome State Fault Refusal :=
  duidRow 0x2 nac errs s

/-- The dispatch of DUID 0x3, TDU: a unit is created (R110, R327). -/
def execDuid3Tdu (nac : BitVec 12) (errs : Nat) (s : State) : Host.Outcome State Fault Refusal :=
  duidRow 0x3 nac errs s

/-- The dispatch of DUID 0x4, unrecognized: the candidate is rejected (R111, R328). -/
def execDuid4Unrecognized (nac : BitVec 12) (errs : Nat) (s : State) : Host.Outcome State Fault Refusal :=
  duidRow 0x4 nac errs s

/-- The dispatch of DUID 0x5, LDU1: a unit is created (R110, R327). -/
def execDuid5Ldu1 (nac : BitVec 12) (errs : Nat) (s : State) : Host.Outcome State Fault Refusal :=
  duidRow 0x5 nac errs s

/-- The dispatch of DUID 0x6, unrecognized: the candidate is rejected (R111, R328). -/
def execDuid6Unrecognized (nac : BitVec 12) (errs : Nat) (s : State) : Host.Outcome State Fault Refusal :=
  duidRow 0x6 nac errs s

/-- The dispatch of DUID 0x7, PDU: a unit is created (R110, R327). -/
def execDuid7Pdu (nac : BitVec 12) (errs : Nat) (s : State) : Host.Outcome State Fault Refusal :=
  duidRow 0x7 nac errs s

/-- The dispatch of DUID 0x8, unrecognized: the candidate is rejected (R111, R328). -/
def execDuid8Unrecognized (nac : BitVec 12) (errs : Nat) (s : State) : Host.Outcome State Fault Refusal :=
  duidRow 0x8 nac errs s

/-- The dispatch of DUID 0x9, PDU: a unit is created (R110, R327). -/
def execDuid9Pdu (nac : BitVec 12) (errs : Nat) (s : State) : Host.Outcome State Fault Refusal :=
  duidRow 0x9 nac errs s

/-- The dispatch of DUID 0xA, LDU2: a unit is created (R110, R327). -/
def execDuidALdu2 (nac : BitVec 12) (errs : Nat) (s : State) : Host.Outcome State Fault Refusal :=
  duidRow 0xA nac errs s

/-- The dispatch of DUID 0xB, unrecognized: the candidate is rejected (R111, R328). -/
def execDuidBUnrecognized (nac : BitVec 12) (errs : Nat) (s : State) : Host.Outcome State Fault Refusal :=
  duidRow 0xB nac errs s

/-- The dispatch of DUID 0xC, PDU: a unit is created (R110, R327). -/
def execDuidCPdu (nac : BitVec 12) (errs : Nat) (s : State) : Host.Outcome State Fault Refusal :=
  duidRow 0xC nac errs s

/-- The dispatch of DUID 0xD, unrecognized: the candidate is rejected (R111, R328). -/
def execDuidDUnrecognized (nac : BitVec 12) (errs : Nat) (s : State) : Host.Outcome State Fault Refusal :=
  duidRow 0xD nac errs s

/-- The dispatch of DUID 0xE, unrecognized: the candidate is rejected (R111, R328). -/
def execDuidEUnrecognized (nac : BitVec 12) (errs : Nat) (s : State) : Host.Outcome State Fault Refusal :=
  duidRow 0xE nac errs s

/-- The dispatch of DUID 0xF, TDULC: a unit is created (R110, R327). -/
def execDuidFTdulc (nac : BitVec 12) (errs : Nat) (s : State) : Host.Outcome State Fault Refusal :=
  duidRow 0xF nac errs s

end Sys2Proof.Machine
end

