-- ==== Sys2Proof/Machine/Dispatch.lean ====
section
/-!
DEFINITION. The dispatch of an instruction to its meaning: one arm per constructor of Instr.
-/

namespace Sys2Proof.Machine

/-- The meaning of an instruction. -/
def exec (i : Instr) (s : State) : Host.Outcome State Fault Refusal :=
  match i with
  | .feed v => Sys2Proof.Machine.execFeed v s
  | .reset => Sys2Proof.Machine.execReset s
  | .rdstat => Sys2Proof.Machine.execRdstat s
  | .syncchk v => Sys2Proof.Machine.execSyncchk v s
  | .nidchk v => Sys2Proof.Machine.execNidchk v s
  | .g23e v => Sys2Proof.Machine.execG23e v s
  | .g23d v => Sys2Proof.Machine.execG23d v s
  | .g24e v => Sys2Proof.Machine.execG24e v s
  | .g24d v => Sys2Proof.Machine.execG24d v s
  | .g18e v => Sys2Proof.Machine.execG18e v s
  | .g18d v => Sys2Proof.Machine.execG18d v s
  | .b63e v => Sys2Proof.Machine.execB63e v s
  | .b63d v => Sys2Proof.Machine.execB63d v s
  | .b64e v => Sys2Proof.Machine.execB64e v s
  | .b64d v => Sys2Proof.Machine.execB64d v s
  | .h15e v => Sys2Proof.Machine.execH15e v s
  | .h15d v => Sys2Proof.Machine.execH15d v s
  | .h10e v => Sys2Proof.Machine.execH10e v s
  | .h10d v => Sys2Proof.Machine.execH10d v s
  | .c16e v => Sys2Proof.Machine.execC16e v s
  | .c16d v => Sys2Proof.Machine.execC16d v s
  | .rs2412e v => Sys2Proof.Machine.execRs2412e v s
  | .rs2412d v => Sys2Proof.Machine.execRs2412d v s
  | .rs2416e v => Sys2Proof.Machine.execRs2416e v s
  | .rs2416d v => Sys2Proof.Machine.execRs2416d v s
  | .rs3620e v => Sys2Proof.Machine.execRs3620e v s
  | .rs3620d v => Sys2Proof.Machine.execRs3620d v s
  | .t12e v => Sys2Proof.Machine.execT12e v s
  | .t12d v => Sys2Proof.Machine.execT12d v s
  | .t34e v => Sys2Proof.Machine.execT34e v s
  | .t34d v => Sys2Proof.Machine.execT34d v s
  | .bilv v => Sys2Proof.Machine.execBilv v s
  | .bdilv v => Sys2Proof.Machine.execBdilv v s
  | .illegal00 => Sys2Proof.Machine.execIllegal00 s
  | .illegal06 x => Sys2Proof.Machine.execIllegal06 x s
  | .illegal08 x => Sys2Proof.Machine.execIllegal08 x s
  | .illegal16 x => Sys2Proof.Machine.execIllegal16 x s
  | .illegal1C x => Sys2Proof.Machine.execIllegal1C x s
  | .illegal26 x => Sys2Proof.Machine.execIllegal26 x s
  | .illegal28 x => Sys2Proof.Machine.execIllegal28 x s
  | .illegal36 x => Sys2Proof.Machine.execIllegal36 x s
  | .illegal38 x => Sys2Proof.Machine.execIllegal38 x s
  | .illegal46 x => Sys2Proof.Machine.execIllegal46 x s
  | .illegal48 x => Sys2Proof.Machine.execIllegal48 x s
  | .illegal50 x => Sys2Proof.Machine.execIllegal50 x s
  | .illegal60 x => Sys2Proof.Machine.execIllegal60 x s
  | .illegal80 x => Sys2Proof.Machine.execIllegal80 x s
  | .duid0Hdu nac errs => Sys2Proof.Machine.execDuid0Hdu nac errs s
  | .duid1Unrecognized nac errs => Sys2Proof.Machine.execDuid1Unrecognized nac errs s
  | .duid2Unrecognized nac errs => Sys2Proof.Machine.execDuid2Unrecognized nac errs s
  | .duid3Tdu nac errs => Sys2Proof.Machine.execDuid3Tdu nac errs s
  | .duid4Unrecognized nac errs => Sys2Proof.Machine.execDuid4Unrecognized nac errs s
  | .duid5Ldu1 nac errs => Sys2Proof.Machine.execDuid5Ldu1 nac errs s
  | .duid6Unrecognized nac errs => Sys2Proof.Machine.execDuid6Unrecognized nac errs s
  | .duid7Pdu nac errs => Sys2Proof.Machine.execDuid7Pdu nac errs s
  | .duid8Unrecognized nac errs => Sys2Proof.Machine.execDuid8Unrecognized nac errs s
  | .duid9Pdu nac errs => Sys2Proof.Machine.execDuid9Pdu nac errs s
  | .duidALdu2 nac errs => Sys2Proof.Machine.execDuidALdu2 nac errs s
  | .duidBUnrecognized nac errs => Sys2Proof.Machine.execDuidBUnrecognized nac errs s
  | .duidCPdu nac errs => Sys2Proof.Machine.execDuidCPdu nac errs s
  | .duidDUnrecognized nac errs => Sys2Proof.Machine.execDuidDUnrecognized nac errs s
  | .duidEUnrecognized nac errs => Sys2Proof.Machine.execDuidEUnrecognized nac errs s
  | .duidFTdulc nac errs => Sys2Proof.Machine.execDuidFTdulc nac errs s

end Sys2Proof.Machine
end

