-- ==== Sys2Proof/Machine/Step.lean ====
section
/-!
DEFINITION. One step of the block: take the next command word from the command port and run it.
-/

namespace Sys2Proof.Machine

/-- One step. The command word at the head of the port is taken and runs to its end (R70, R72); while no whole
command word has been presented the block is idle and keeps all its state (R422; DESIGN CHOICE for an incomplete
word, notes/assumptions/6.md). -/
def step (s : State) : Host.Outcome State Fault Refusal :=
  match decode s.port with
  | .ok (i, rest) => exec i { s with port := rest }
  | .error _ => .next s

/-- The octets of the one command word at the head of `l`. -/
def firstCommand (l : List Octet) : List Octet :=
  match decode l with
  | .ok (_, rest) => l.take (l.length - rest.length)
  | .error _ => l

/-- The state with a table word's command presented on the port, before whatever waits there: the next step takes
exactly it (notes/assumptions/5.md). -/
def State.withFetchWord (s : State) (nbits w : Nat) : State :=
  { s with port := firstCommand (tableOctets nbits w) ++ s.port }

end Sys2Proof.Machine
end

