-- ==== Sys2Proof/Safety.lean ====
section
/-!
DEFINITION. What counts as a safe state of the block: the invariants of 10 R39 between commands, with what they need
of the in-flight unit, and the fault causes that a command sequence can record (60 R405, R406). Then the terms the
statements are written in: responses and state updates in full, the codes described without the encoders, and the
tables of the spec.
-/

namespace Sys2Proof.Safety

open Sys2Proof.Machine

/-- A PDU in flight at frame position `pos`: exactly the blocks that have ended by `pos` are decoded, the total is the
one their contents declare, and it has not been reached (R264, R286, R287, R289). -/
def PduInFlight (pos : Nat) (u : DataUnit) : Prop :=
  56 + 98 * u.blocks.length ≤ ndata pos ∧ ndata pos < 56 + 98 * (u.blocks.length + 1) ∧
  u.total = pduTotal u.duid u.blocks ∧
  (∀ t, u.total = some t → u.blocks.length < t ∧ t ≤ maxPduBlocks) ∧
  (u.duid = 0x7 → u.blocks.length < 3)

/-- A unit in flight at frame position `pos` (R35, R39, R261, R266). -/
def UnitInFlight (pos : Nat) (u : DataUnit) : Prop :=
  u.life = .accumulating ∧ variantOf u.duid = some u.variant ∧ u.nidErrs ≤ 11 ∧ 57 ≤ pos ∧
  match fixedSize u.variant with
  | some size => pos < size ∧ u.blocks = [] ∧ u.total = none
  | none => PduInFlight pos u

/-- SEARCHING: no candidate frame (R39). -/
def SearchingShape (s : State) : Prop := s.fbuf = [] ∧ s.unit = none

/-- IDENTIFYING: a frame sync, and no whole NID yet (R39). -/
def IdentifyingShape (s : State) : Prop := s.unit = none ∧ 24 ≤ s.pos ∧ s.pos ≤ 56

/-- READING: a unit in flight (R39). -/
def ReadingShape (s : State) : Prop := ∃ u, s.unit = some u ∧ UnitInFlight s.pos u

/-- The invariant between commands (R39). Outside FAULTED no fault is recorded (R37); in FAULTED the cause is
ILLEGAL_OPCODE or OPERAND_RANGE, the only faults a command sequence raises (R405, R406), and the rest is frozen in
one of the other shapes (R38). -/
def Inv (s : State) : Prop :=
  match s.st with
  | .searching => s.faultCause = 0 ∧ SearchingShape s
  | .identifying => s.faultCause = 0 ∧ IdentifyingShape s
  | .reading => s.faultCause = 0 ∧ ReadingShape s
  | .faulted =>
    (s.faultCause = FaultCause.code .illegalOpcode ∨ s.faultCause = FaultCause.code .operandRange) ∧
    (SearchingShape s ∨ IdentifyingShape s ∨ ReadingShape s)

/-- A command can run: the block is not in FAULTED (R411, R413). -/
def Ready (s : State) : Prop := s.st ≠ .faulted

/-! ## Responses and updates, written out

`value` and `cw` are held zero-extended to 216 bits (notes/assumptions/7.md). -/

/-- Status OK with a value (R140). That the absent `cw` is zero is the model's choice (notes/assumptions/23.md). -/
def answerOk {n : Nat} (value : BitVec n) : Response := ⟨.ok, .none, 0, value.setWidth 216, 0⟩

/-- Status OK of a codec decode: information bits, corrected codeword, error count (R12, R140). -/
def answerDecoded {k n : Nat} (value : BitVec k) (cw : BitVec n) (errs : Nat) : Response :=
  ⟨.ok, .none, BitVec.ofNat 8 errs, value.setWidth 216, cw.setWidth 216⟩

/-- Status FAIL of a codec decode (R140). -/
def answerFail : Response := ⟨.fail, .none, 0, 0, 0⟩

/-- Status FAULTED (R410, R411). -/
def answerFaulted : Response := ⟨.faulted, .none, 0, 0, 0⟩

/-- A FEED that completed: its event, and the 2-bit code of `st` after it (R320). That the absent `cw` is zero is the
model's choice (notes/assumptions/23.md). -/
def answerFeed (ev : Event) (code : BitVec 2) : Response := ⟨.ok, ev, 0, code.setWidth 216, 0⟩

/-- The state with a response and every other element as it was. -/
def answered (s : State) (r : Response) : State := { s with resp := some r }

/-- The state after a fault entry with a cause code, every other element as it was (R410). -/
def faultEntered (code : BitVec 6) (s : State) : State :=
  { s with st := .faulted, faultCause := code, resp := some answerFaulted }

/-- Back in SEARCHING: the four writes of R323. -/
def searchingAgain (s : State) : State := { s with st := .searching, window := 0, fbuf := [], unit := none }

/-- The state after the FEED that completes a unit with a record (R331). -/
def completed (s : State) (r : Record) : State :=
  { searchingAgain s with out := s.out ++ [r], resp := some (answerFeed .emitted 0) }

/-- The state after the rejection of a candidate frame with an event (R326, R328). -/
def rejected (s : State) (ev : Event) : State :=
  { searchingAgain s with unrec := s.unrec + 1, resp := some (answerFeed ev 0) }

/-! ## Distances and codes, without the encoders -/

/-- The number of positions where two words differ. -/
def differences {n : Nat} (a b : BitVec n) : Nat :=
  ((List.range n).filter fun i => a.getLsbD i != b.getLsbD i).length

/-- The number of one bits. -/
def ones {n : Nat} (a : BitVec n) : Nat := ((List.range n).filter fun i => a.getLsbD i).length

/-- The product of two polynomials over GF(2), bit i being the coefficient of x^i. -/
def polyProduct {k n : Nat} (q : BitVec k) (g : BitVec n) : BitVec n :=
  (List.range k).foldl (fun acc i => if q.getLsbD i then acc ^^^ (g <<< i) else acc) 0

/-- `c` is the product of `g` and a polynomial of degree below `k`. -/
def IsMultiple {n : Nat} (k : Nat) (g c : BitVec n) : Prop := ∃ q : BitVec k, c = polyProduct q g

/-- Golay(23,12): the multiples of `GOLAY_GEN` (R152). -/
def IsGolay23 (c : BitVec 23) : Prop := IsMultiple 12 golayGen c

/-- Golay(24,12): a Golay(23,12) word and a bit that makes the weight even (R155). -/
def IsGolay24 (c : BitVec 24) : Prop := IsGolay23 (c.extractLsb' 1 23) ∧ ones c % 2 = 0

/-- Golay(18,6): a Golay(24,12) word whose first six bits are zero (R158). -/
def IsGolay18 (c : BitVec 18) : Prop := IsGolay24 (c.setWidth 24)

/-- BCH(63,16): the multiples of `BCH_GEN` (R161). -/
def IsBch63 (c : BitVec 63) : Prop := IsMultiple 16 bchGen c

/-- BCH(64,16): a BCH(63,16) word and a bit that makes the weight even (R164). -/
def IsBch64 (c : BitVec 64) : Prop := IsBch63 (c.extractLsb' 1 63) ∧ ones c % 2 = 0

/-- Cyclic(16,8): the multiples of `CYC16_GEN` (R176). -/
def IsCyclic16 (c : BitVec 16) : Prop := IsMultiple 8 cyc16Gen c

/-- The sum of the parity-check columns at the positions that hold a one, position 0 the most significant bit. -/
def columnSum {n : Nat} (columns : List Nibble) (c : BitVec n) : Nibble :=
  ((List.range n).filter fun q => c.getMsbD q).foldl (fun acc q => acc ^^^ columns.getD q 0) 0

/-- Hamming(15,11): the words whose parity-check columns sum to zero (R170). -/
def IsHamming15 (c : BitVec 15) : Prop := columnSum (hammingColumns ham15P) c = 0

/-- Hamming(10,6): the words whose parity-check columns sum to zero (R170). -/
def IsHamming10 (c : BitVec 10) : Prop := columnSum (hammingColumns ham10P) c = 0

/-- Reed-Solomon with `r` parity symbols: the words, highest coefficient first, that vanish at α^RS_B to
α^(RS_B+r-1) (R201). -/
def IsReedSolomon (r : Nat) (c : List Hexbit) : Prop := ∀ j < r, gfEval c (gfPow gfAlpha (1 + j)) = 0

/-- The number of 6-bit symbols in which two words of `k` symbols differ (R10). -/
def symbolDifferences {n : Nat} (k : Nat) (a b : BitVec n) : Nat :=
  ((List.range k).filter fun i => a.extractLsb' (6 * i) 6 != b.extractLsb' (6 * i) 6).length

/-- Bounded-distance decoding (R150): `resp` reports a codeword within radius `t` of `r` where there is one, and FAIL
where there is none. -/
def BoundedDistance {n k : Nat} (code : BitVec n → Prop) (distance : BitVec n → BitVec n → Nat)
    (info : BitVec n → BitVec k) (t : Nat) (r : BitVec n) (resp : Response) : Prop :=
  (∃ c, code c ∧ distance c r ≤ t ∧ resp = answerDecoded (info c) c (distance c r)) ∨
  ((∀ c, code c → t < distance c r) ∧ resp = answerFail)

/-- A value of 8·n bits as n octets, first octet first (R68, R301). -/
def octetsOf (n : Nat) (v : BitVec (8 * n)) : List Octet := (List.range n).map fun i => v.extractLsb' (8 * (n - 1 - i)) 8

/-! ## Trellis -/

/-- Codeword i of a block of 49, codeword 0 in the most significant bits (R133, R230). -/
def nibbleAt (w : BitVec 196) (i : Nat) : Nibble := w.extractLsb' (4 * (48 - i)) 4

/-- Codeword i is the table's entry for the input of step i in the state that the input before it left; the state
before the first input is 0, and an input beyond the list is the flush symbol 0 (R230). -/
def IsTrellisCoded {b : Nat} (rows : List (List Nibble)) (xs : List (BitVec b)) (c : BitVec 196) : Prop :=
  ∀ i < 49, nibbleAt c i = nextCodeword rows ((0 :: xs).getD i 0) (xs.getD i 0)

/-- At every step the path's input is nearer to the received codeword than any other input of its state (R234). -/
def IsNearestPath {b : Nat} (rows : List (List Nibble)) (w : BitVec 196) (ys : List (BitVec b)) : Prop :=
  ys.length = 49 ∧ ∀ i < 49, ∀ x, x ≠ ys.getD i 0 →
    differences (nibbleAt w i) (nextCodeword rows ((0 :: ys).getD i 0) (ys.getD i 0)) <
      differences (nibbleAt w i) (nextCodeword rows ((0 :: ys).getD i 0) x)

/-- The sum of a path's distances (R234). -/
def pathErrors {b : Nat} (rows : List (List Nibble)) (w : BitVec 196) (ys : List (BitVec b)) : Nat :=
  ((List.range 49).map fun i =>
    differences (nibbleAt w i) (nextCodeword rows ((0 :: ys).getD i 0) (ys.getD i 0))).sum

/-- The trellis decode of a block (R234, R236, R238): the symbols of the nearest path without its flush, their
re-encoding and the path's errors; FAIL when some step has no single nearest input. -/
def TrellisDecoded {b : Nat} (rows : List (List Nibble)) (w : BitVec 196) (resp : Response) : Prop :=
  (∃ (ys : List (BitVec b)) (value : BitVec (b * 48)) (cw : BitVec 196), IsNearestPath rows w ys ∧
    (∀ i < 48, value.extractLsb' (b * (47 - i)) b = ys.getD i 0) ∧
    IsTrellisCoded rows (ys.take 48) cw ∧ resp = answerDecoded value cw (pathErrors rows w ys)) ∨
  ((∀ ys : List (BitVec b), ¬ IsNearestPath rows w ys) ∧ resp = answerFail)

/-- The interleave schedule, as the spec generates it (R240). -/
def ilv (k : Nat) : Nat := [0, 13, 25, 37].getD (k % 4) 0 + k / 4

/-- `u` is the block that stands interleaved in `t` (R240 to R242). -/
def IsInterleaved (u t : BitVec 196) : Prop := ∀ k < 49, nibbleAt t (ilv k) = nibbleAt u k

/-- A PDU block received as `t`, with `n` octets of `b`-bit symbols (R286): the octets of the deinterleaved block's
nearest path, its errors, and its re-encoding interleaved again; on a tie status FAIL, zero octets, no errors, and the
bits as received. -/
def BlockDecoded {b : Nat} (rows : List (List Nibble)) (rate : Rate) (n : Nat) (t : BitVec 196) (blk : Block) : Prop :=
  ∃ u, IsInterleaved u t ∧
    ((∃ (ys : List (BitVec b)) (value : BitVec (8 * n)) (c cw : BitVec 196), IsNearestPath rows u ys ∧
      (∀ i < 48, value.extractLsb' (b * (47 - i)) b = ys.getD i 0) ∧
      IsTrellisCoded rows (ys.take 48) c ∧ IsInterleaved c cw ∧
      blk = { status := .ok, rate := rate, octets := octetsOf n value, errs := pathErrors rows u ys, cw := cw }) ∨
    ((∀ ys : List (BitVec b), ¬ IsNearestPath rows u ys) ∧
      blk = { status := .fail, rate := rate, octets := List.replicate n 0, errs := 0, cw := t }))

/-! ## Frames -/

/-- The DUID decode table (R110). -/
def duidTable : List (BitVec 4 × Variant) :=
  [(0x0, .hdu), (0x3, .tdu), (0x5, .ldu1), (0x7, .pdu), (0x9, .pdu), (0xA, .ldu2), (0xC, .pdu), (0xF, .tdulc)]

/-- The sizes of the fixed-size variants, in dibits (R266). -/
def sizeTable : List (Variant × Nat) := [(.tdu, 72), (.tdulc, 216), (.hdu, 396), (.ldu1, 864), (.ldu2, 864)]

/-- The unit that the dispatch of a valid NID creates (R261, R327). -/
def createdUnit (variant : Variant) (duid : BitVec 4) (nac : BitVec 12) (errs : Nat) : DataUnit where
  variant := variant
  duid := duid
  nac := nac
  nidCw := nidWord nac duid
  nidErrs := errs
  life := .accumulating
  blocks := []
  total := none

/-- The state after the dispatch of a valid NID (R327, R328). -/
def dispatched (s : State) (duid : BitVec 4) (nac : BitVec 12) (errs : Nat) : State :=
  match duidTable.lookup duid with
  | some variant =>
    { s with unit := some (createdUnit variant duid nac errs), st := .reading, resp := some (answerFeed .none 2) }
  | none => rejected s .unrecognized

/-- The frame buffer after a FEED of an operand octet. -/
def fed (s : State) (v : BitVec 8) : List Dibit := s.fbuf ++ [v.setWidth 2]

/-- The `n` bits of a sequence from bit `a` on, as a word, the first bit the most significant (R9). -/
def wordAt (b : Bits) (a n : Nat) : BitVec n := BitVec.ofNat n (int ((b.drop a).take n))

/-- Data bits with the corrected NID codeword over bits 48 to 111 (R302). -/
def nidWritten (b : Bits) (cw : BitVec 64) : Bits := b.take 48 ++ bitsOf cw ++ b.drop 112

/-- The first data bits of codeword j of an LDU's embedded field: ten bits in the segment j/4 (R119, R278). -/
def lduCodewordStart (j : Nat) : Nat := [400, 584, 768, 952, 1136, 1320].getD (j / 4) 0 + 10 * (j % 4)

/-- A sequence with the bits from `a` on replaced by a word (R302). -/
def overwritten {n : Nat} (b : Bits) (a : Nat) (w : BitVec n) : Bits := b.take a ++ bitsOf w ++ b.drop (a + n)

/-! ## Fields

What the inner and the outer codes of a field come to, said by the encoders and distances alone. -/

/-- What an inner codeword comes to: its information bits, the word that stands in the data bits afterwards, the bit
errors it counts, and whether it failed (R269, R302). -/
structure InnerOutcome (k n : Nat) where
  info : BitVec k
  word : BitVec n
  errs : Nat
  failed : Bool
  deriving DecidableEq, Repr

/-- An inner codeword received as `r`: within `t` bits of a message's codeword it is corrected to it and written back;
with no codeword that near it fails, hands on its received information bits and stays as received (R150, R269, R302). -/
def InnerDecoded {k n : Nat} (enc : BitVec k → BitVec n) (t : Nat) (r : BitVec n) (x : InnerOutcome k n) : Prop :=
  (∀ m, differences r (enc m) ≤ t → x = ⟨m, enc m, differences r (enc m), false⟩) ∧
  ((∀ m, t < differences r (enc m)) → x = ⟨r.extractLsb' (n - k) k, r, 0, true⟩)

/-- The sum of the bit errors of `n` inner codewords (R300). -/
def innerErrors {k m : Nat} (n : Nat) (x : Nat → InnerOutcome k m) : Nat := ((List.range n).map fun i => (x i).errs).sum

/-- How many of `n` inner codewords failed (R269). -/
def innerFailures {k m : Nat} (n : Nat) (x : Nat → InnerOutcome k m) : Nat :=
  ((List.range n).filter fun i => (x i).failed).length

/-- What the outer code of a field of `w` bits comes to: its value, its status, its symbol errors (R275). -/
structure OuterOutcome (w : Nat) where
  value : BitVec w
  status : FieldStatus
  errs : Nat
  deriving DecidableEq, Repr

/-- The number of hexbits in which two words of one length differ (R10). -/
def hexbitDifferences (a b : List Hexbit) : Nat := ((a.zip b).filter fun p => p.1 != p.2).length

/-- An outer Reed-Solomon codeword with `r` parity symbols, received as `hs`: within ⌊r/2⌋ symbols of the codeword of a
value, that value, status OK and the symbol errors; with no codeword that near, the value zero and status FAIL (R201,
R202, R275). It does not say what a failed field counts. -/
def OuterDecoded {w : Nat} (r : Nat) (hs : List Hexbit) (y : OuterOutcome w) : Prop :=
  (∀ v : BitVec w, hexbitDifferences (rsEncode r (unpack 6 (w / 6) v)) hs ≤ r / 2 →
    y = ⟨v, .ok, hexbitDifferences (rsEncode r (unpack 6 (w / 6) v)) hs⟩) ∧
  ((∀ v : BitVec w, r / 2 < hexbitDifferences (rsEncode r (unpack 6 (w / 6) v)) hs) → y.value = 0 ∧ y.status = .fail)

/-- A failed field counts no symbol errors (R272, R279, R282; R280 does not say it of the ES). -/
def FailCountsNothing {w : Nat} (y : OuterOutcome w) : Prop := y.status = .fail → y.errs = 0

/-- The entry of a Low-Speed Data codeword (R281). -/
def lsdOf (x : InnerOutcome 8 16) : LsdEntry := if x.failed then ⟨0, .fail, 0⟩ else ⟨x.info, .ok, x.errs⟩

/-- The data bits of an LDU after its decode: the words of the 24 codewords of the embedded field and of the two LSD
codewords in their places, every other bit as it was (R278, R281, R302). -/
def lduWritten (b : Bits) (x : Nat → InnerOutcome 6 10) (l : Nat → InnerOutcome 8 16) : Bits :=
  let b' := (List.range 24).foldl (fun d j => overwritten d (lduCodewordStart j) (x j).word) b
  overwritten (overwritten b' 1504 (l 0).word) 1520 (l 1).word

/-- The embedded field and the Low-Speed Data of an LDU whose data bits are `b` (R278, R281). -/
def LduDecoded (b : Bits) (x : Nat → InnerOutcome 6 10) (l : Nat → InnerOutcome 8 16) : Prop :=
  (∀ j < 24, InnerDecoded encH10 1 (wordAt b (lduCodewordStart j) 10) (x j)) ∧
  (∀ j < 2, InnerDecoded encC16 2 (wordAt b (1504 + 16 * j) 16) (l j))

/-! ## Voice and runs -/

/-- The first data bits of the voice slots (R360). -/
def voiceStart (i : Nat) : Nat := [112, 256, 440, 624, 808, 992, 1176, 1360, 1536].getD i 0

/-- The voice entries of an LDU as received (R361, R362 with `IMBE_FEC` false): nine, RAW, each the slot's bits
through `VOICE_PERM`. -/
def IsRawVoice (b : Bits) (voice : List VoiceEntry) : Prop :=
  voice.length = 9 ∧ ∀ i < 9, ∃ raw : BitVec 144,
    voice[i]? = some { raw := raw, vstatus := .raw, info := 0, verrs := 0 } ∧
    ∀ j < 144, raw.getMsbD j = b.getD (voiceStart i + voicePerm.getD j 0) false

/-- A run of FEEDs: the events and the state after them; none when one of them does not answer OK. -/
def feedEvents : List Dibit → State → Option (List Event × State)
  | [], s => some ([], s)
  | d :: ds, s =>
    match exec (.feed (d.setWidth 8)) s with
    | .next t =>
      match t.resp with
      | some r =>
        if r.status = .ok then (feedEvents ds t).map fun x => (r.event :: x.1, x.2) else none
      | none => none
    | .fault _ => none
    | .refused _ => none

/-- Two states that differ at most in dibits of the frame buffer at status positions (R62, R64). -/
def AgreeOffStatus (s t : State) : Prop :=
  t = { s with fbuf := t.fbuf } ∧ t.fbuf.length = s.fbuf.length ∧
  ∀ p, p % 36 ≠ 35 → t.fbuf[p]? = s.fbuf[p]?

/-! ## Commands -/

/-- The opcodes and OPLENs of the command table (R131). -/
def opcodeTable : List (Octet × Nat) :=
  [(0x01, 1), (0x02, 0), (0x03, 0), (0x04, 6), (0x05, 8), (0x10, 2), (0x11, 3), (0x12, 2), (0x13, 3), (0x14, 1),
   (0x15, 3), (0x18, 2), (0x19, 8), (0x1A, 2), (0x1B, 8), (0x20, 2), (0x21, 2), (0x22, 1), (0x23, 2), (0x24, 1),
   (0x25, 2), (0x30, 9), (0x31, 18), (0x32, 12), (0x33, 18), (0x34, 15), (0x35, 27), (0x40, 12), (0x41, 25),
   (0x42, 18), (0x43, 25), (0x44, 25), (0x45, 25)]

/-- The octets of a command word: an opcode and an operand of 8·n bits, big-endian (R130). -/
def commandOctets (op : Octet) (n : Nat) (v : BitVec (8 * n)) : List Octet := op :: octetsOf n v

end Sys2Proof.Safety
end

