-- ==== Sys2Proof/Certificates/Slice0/Obligations.lean ====
section
/-!
DEFINITION. The statements for the provers. A response's `value` and `cw` are held zero-extended to 216 bits in the
model's own field `resp`, where a `cw` that the spec gives no command but the decoders is zero, and the commands wait in
the model's own field `port` (notes/assumptions/5.md, 7.md, 23.md): every statement that names a response or the port
rests on those choices, which are the model's and no rule's.
-/

section Slice0

open Sys2Proof Sys2Proof.Machine Sys2Proof.Safety

/-! ## Encoding -/

/-- 30 R131, R103, R132: words written out from the spec decode to the instructions they stand for. -/
def Obligations.SpecWordsDecode : Prop :=
  decode [0x01, 0x03] = .ok (.feed 3, []) ∧
  decode [0x02] = .ok (.reset, []) ∧
  decode [0x11, 0x09, 0x18, 0x56] = .ok (.g23d 0x091856, []) ∧
  decode [0x05, 0xA9, 0x33, 0x39, 0x77, 0x72, 0x8C, 0xEC, 0x6F, 0x03] = .ok (.nidchk 0xA9333977728CEC6F, [0x03]) ∧
  decode [0x40, 0x6C, 0x6C, 0x6C, 0x6C, 0x6C, 0x6C, 0x6C, 0x6C, 0x6C, 0x6C, 0x6C, 0x6C] =
    .ok (.t12e 0x6C6C6C6C6C6C6C6C6C6C6C6C, []) ∧
  decode [0x2D, 0x01] = .ok (.illegal28 5, [0x01]) ∧
  decode [0xFF] = .ok (.illegal80 127, []) ∧
  decodeNid 0x29333977728CED6F = some (.duid3Tdu 0x293 0)

/-- 30 R130 to R132: decoding the octets of any command, whatever follows them, gives it back with every operand bit
and leaves exactly what follows. -/
def Obligations.DecodeUndoesEncode : Prop :=
  ∀ (i : Instr) (rest : List Octet), i.isDuidRow = false → decode (encode i ++ rest) = .ok (i, rest)

/-- 30 R130 to R132: what the decoder reads is the encoding of what it answers, followed by what it leaves, and it is
never a DUID row. -/
def Obligations.EncodeUndoesDecode : Prop :=
  ∀ (l rest : List Octet) (i : Instr), decode l = .ok (i, rest) → encode i ++ rest = l ∧ i.isDuidRow = false

/-- 30 R103, R104, R110 and 40 R166, R167: a NID codeword with at most 11 errors in its 63 BCH bits, and its parity bit
as it may be, selects the row of the DUID sent, with the NAC sent and the error count. -/
def Obligations.NidSelectsRowSent : Prop :=
  ∀ (nac : BitVec 12) (duid : BitVec 4) (e : BitVec 64), ones (e.extractLsb' 1 63) ≤ 11 →
    decodeNid (nidWord nac duid ^^^ e) = some (duidInstr duid nac (ones (e.extractLsb' 1 63)))

/-! ## The step and the reset state -/

/-- The step takes the command word at the head of the port and runs it (20 R70, R72); without a whole command word it
changes nothing (MODEL's choice, notes/assumptions/6.md). -/
def Obligations.StepRunsDecodedCommand : Prop :=
  (∀ (s : State) (i : Instr) (rest : List Octet), decode s.port = .ok (i, rest) →
    step s = exec i { s with port := rest }) ∧
  (∀ (s : State) (e : DecodeError), decode s.port = .error e → step s = .next s)

/-- No step stops: whatever the state and whatever waits on the port, the step answers a next state (60 R405: the
block's faults are states). -/
def Obligations.StepAlwaysAnswersNext : Prop := ∀ s : State, ∃ t, step s = .next t

/-- 70 R440. -/
def Obligations.PowerOnState : Prop :=
  State.reset.st = .searching ∧ State.reset.window = 0 ∧ State.reset.fbuf = [] ∧ State.reset.unit = none ∧
  State.reset.unrec = 0 ∧ State.reset.faultCause = 0 ∧ State.reset.out = []

/-- The state at power-on meets the invariant (10 R39). -/
def Obligations.PowerOnMeetsInvariant : Prop := Inv State.reset

/-- Every step keeps the invariant between commands (10 R39, with the bounds of R35, R266 and R289). -/
def Obligations.StepKeepsInvariant : Prop := ∀ s t : State, Inv s → step s = .next t → Inv t

/-- 60 R406: whatever octets the host presents, any number of steps from power-on runs on, and no fault but
ILLEGAL_OPCODE (1) and OPERAND_RANGE (2) is ever recorded. -/
def Obligations.AssertionFaultsUnreachable : Prop :=
  ∀ (octets : List Octet) (k : Nat), ∃ t : State,
    Sys2Proof.core.run k ({ State.reset with port := octets } : State) = Host.Outcome.next t ∧
    (t.faultCause = 0 ∨ t.faultCause = 1 ∨ t.faultCause = 2)

/-! ## Faults and control -/

/-- 60 R411. -/
def Obligations.FaultedRefusesAllButResetAndStatus : Prop :=
  ∀ (i : Instr) (s : State), s.st = .faulted → i.isDuidRow = false →
    (i ≠ .reset → i ≠ .rdstat → exec i s = .next (answered s answerFaulted)) ∧
    exec .reset s = .next { State.reset with out := s.out, port := s.port, resp := some (answerOk (0 : BitVec 1)) } ∧
    exec .rdstat s = .next (answered s (answerOk (statusWord s)))

/-- 30 R130, 60 R413: an operand wider than W, in any state that can run the command, enters FAULTED with
OPERAND_RANGE (2). -/
def Obligations.OverwideOperandFaults : Prop :=
  ∀ (i : Instr) (s : State), i.wf = false → i.isDuidRow = false → Ready s → exec i s = .next (faultEntered 2 s)

/-- 30 R132, 46 R384: each of the fourteen rows of illegal opcodes enters FAULTED with ILLEGAL_OPCODE (1). -/
def Obligations.IllegalRowsFault : Prop :=
  ∀ s : State, Ready s →
    exec .illegal00 s = .next (faultEntered 1 s) ∧
    (∀ x, exec (.illegal06 x) s = .next (faultEntered 1 s)) ∧
    (∀ x, exec (.illegal08 x) s = .next (faultEntered 1 s)) ∧
    (∀ x, exec (.illegal16 x) s = .next (faultEntered 1 s)) ∧
    (∀ x, exec (.illegal1C x) s = .next (faultEntered 1 s)) ∧
    (∀ x, exec (.illegal26 x) s = .next (faultEntered 1 s)) ∧
    (∀ x, exec (.illegal28 x) s = .next (faultEntered 1 s)) ∧
    (∀ x, exec (.illegal36 x) s = .next (faultEntered 1 s)) ∧
    (∀ x, exec (.illegal38 x) s = .next (faultEntered 1 s)) ∧
    (∀ x, exec (.illegal46 x) s = .next (faultEntered 1 s)) ∧
    (∀ x, exec (.illegal48 x) s = .next (faultEntered 1 s)) ∧
    (∀ x, exec (.illegal50 x) s = .next (faultEntered 1 s)) ∧
    (∀ x, exec (.illegal60 x) s = .next (faultEntered 1 s)) ∧
    (∀ x, exec (.illegal80 x) s = .next (faultEntered 1 s))

/-- 30 R132: an opcode octet outside the command table is a command word of its own and faults. -/
def Obligations.UnlistedOpcodeFaults : Prop :=
  ∀ (op : Octet) (rest : List Octet) (s : State), op ∉ opcodeTable.map Prod.fst → s.port = op :: rest → Ready s →
    step s = .next (faultEntered 1 { s with port := rest })

/-- 60 R410: a command that enters FAULTED has written nothing but `st` and `fault_cause`. -/
def Obligations.FaultEntryIsPrecise : Prop :=
  ∀ (i : Instr) (s t : State), exec i s = .next t → s.st ≠ .faulted → t.st = .faulted →
    ∃ c : FaultCause, t = faultEntered c.code s

/-- 60 R412: no instruction but RESET leaves FAULTED, it leaves to the reset state, and no fault nests. -/
def Obligations.OnlyResetLeavesFaulted : Prop :=
  ∀ (i : Instr) (s t : State), s.st = .faulted → exec i s = .next t →
    (t.st ≠ .faulted → i = .reset ∧
      t = { State.reset with out := s.out, port := s.port, resp := some (answerOk (0 : BitVec 1)) }) ∧
    (i ≠ .reset → t = answered s (t.resp.getD answerFaulted))

/-- 46 R381: RESET, in every state, leaves the state of power-on but for the records already emitted (and but for the
model's own `port` and `resp`). -/
def Obligations.ResetGivesPowerOnState : Prop :=
  ∀ s : State,
    exec .reset s = .next { State.reset with out := s.out, port := s.port, resp := some (answerOk (0 : BitVec 1)) } ∧
    State.reset = { State.reset with out := [] }

/-- 46 R382: the fields of the status word, in every state; POS is the length of the frame buffer modulo 2^16
(notes/assumptions/14.md). -/
def Obligations.StatusWordFields : Prop :=
  ∀ s : State, ∃ w : BitVec 64, exec .rdstat s = .next (answered s (answerOk w)) ∧
    w.extractLsb' 62 2 = s.st.code ∧
    w.extractLsb' 56 6 = s.faultCause ∧
    w.extractLsb' 53 3 = 0 ∧
    (w.getLsbD 52 = true ↔ s.unit ≠ none) ∧
    (∀ u, s.unit = some u → w.extractLsb' 48 4 = u.duid) ∧
    (s.unit = none → w.extractLsb' 48 4 = 0) ∧
    w.extractLsb' 32 16 = BitVec.ofNat 16 s.fbuf.length ∧
    w.extractLsb' 0 32 = s.unrec

/-! ## Codecs -/

/-- 44 R335, 30 R102: the correlate bit and the distance. -/
def Obligations.SyncCheckReportsDistance : Prop :=
  ∀ (w : BitVec 48) (s : State), Ready s → ∃ value : BitVec 7,
    exec (.syncchk w) s = .next (answered s (answerOk value)) ∧
    (value.getLsbD 6 = true ↔ differences w 0x5575F5FF77FF < 4) ∧
    (value.extractLsb' 0 6).toNat = differences w 0x5575F5FF77FF

/-- 40 R152, R153, R161, R162, R176, R178: the message stands in the high bits of a multiple of the generator. -/
def Obligations.CyclicEncodersGiveMultiples : Prop :=
  (∀ (v : BitVec 16) (s : State), v.toNat < 2 ^ 12 → Ready s → ∃ c : BitVec 23,
    exec (.g23e v) s = .next (answered s (answerOk c)) ∧ c.extractLsb' 11 12 = v.setWidth 12 ∧ IsGolay23 c) ∧
  (∀ (v : BitVec 16) (s : State), Ready s → ∃ c : BitVec 63,
    exec (.b63e v) s = .next (answered s (answerOk c)) ∧ c.extractLsb' 47 16 = v ∧ IsBch63 c) ∧
  (∀ (v : BitVec 8) (s : State), Ready s → ∃ c : BitVec 16,
    exec (.c16e v) s = .next (answered s (answerOk c)) ∧ c.extractLsb' 8 8 = v ∧ IsCyclic16 c)

/-- 40 R155, R156, R158, R159, R164: the extended and shortened codes. -/
def Obligations.ExtendedEncodersGiveEvenCodewords : Prop :=
  (∀ (v : BitVec 16) (s : State), v.toNat < 2 ^ 12 → Ready s → ∃ c : BitVec 24,
    exec (.g24e v) s = .next (answered s (answerOk c)) ∧ c.extractLsb' 12 12 = v.setWidth 12 ∧ IsGolay24 c) ∧
  (∀ (v : BitVec 8) (s : State), v.toNat < 2 ^ 6 → Ready s → ∃ c : BitVec 18,
    exec (.g18e v) s = .next (answered s (answerOk c)) ∧ c.extractLsb' 12 6 = v.setWidth 6 ∧ IsGolay18 c) ∧
  (∀ (v : BitVec 16) (s : State), Ready s → ∃ c : BitVec 64,
    exec (.b64e v) s = .next (answered s (answerOk c)) ∧ c.extractLsb' 48 16 = v ∧ IsBch64 c)

/-- 40 R170, R172, R174: the parity-check columns at the ones of the codeword sum to zero, whatever the OPEN matrices
are. -/
def Obligations.HammingEncodersSatisfyChecks : Prop :=
  (∀ (v : BitVec 16) (s : State), v.toNat < 2 ^ 11 → Ready s → ∃ c : BitVec 15,
    exec (.h15e v) s = .next (answered s (answerOk c)) ∧ c.extractLsb' 4 11 = v.setWidth 11 ∧ IsHamming15 c) ∧
  (∀ (v : BitVec 8) (s : State), v.toNat < 2 ^ 6 → Ready s → ∃ c : BitVec 10,
    exec (.h10e v) s = .next (answered s (answerOk c)) ∧ c.extractLsb' 4 6 = v.setWidth 6 ∧ IsHamming10 c)

/-- 40 R150, R154, R157, R160, R179: the Golay decoders at radius 3 and the cyclic decoder at radius 2; Golay(23,12) is
perfect and never fails. -/
def Obligations.GolayAndCyclicDecodersAreBoundedDistance : Prop :=
  (∀ (v : BitVec 24) (s : State), v.toNat < 2 ^ 23 → Ready s → ∃ r,
    exec (.g23d v) s = .next (answered s r) ∧
    BoundedDistance IsGolay23 differences (fun c => c.extractLsb' 11 12) 3 (v.setWidth 23) r ∧ r.status = .ok) ∧
  (∀ (v : BitVec 24) (s : State), Ready s → ∃ r,
    exec (.g24d v) s = .next (answered s r) ∧
    BoundedDistance IsGolay24 differences (fun c => c.extractLsb' 12 12) 3 v r) ∧
  (∀ (v : BitVec 24) (s : State), v.toNat < 2 ^ 18 → Ready s → ∃ r,
    exec (.g18d v) s = .next (answered s r) ∧
    BoundedDistance IsGolay18 differences (fun c => c.extractLsb' 12 6) 3 (v.setWidth 18) r) ∧
  (∀ (v : BitVec 16) (s : State), Ready s → ∃ r,
    exec (.c16d v) s = .next (answered s r) ∧
    BoundedDistance IsCyclic16 differences (fun c => c.extractLsb' 8 8) 2 v r)

/-- 40 R150, R163, R165: the BCH decoders at radius 11. -/
def Obligations.BchDecodersAreBoundedDistance : Prop :=
  (∀ (v : BitVec 64) (s : State), v.toNat < 2 ^ 63 → Ready s → ∃ r,
    exec (.b63d v) s = .next (answered s r) ∧
    BoundedDistance IsBch63 differences (fun c => c.extractLsb' 47 16) 11 (v.setWidth 63) r) ∧
  (∀ (v : BitVec 64) (s : State), Ready s → ∃ r,
    exec (.b64d v) s = .next (answered s r) ∧
    BoundedDistance IsBch64 differences (fun c => c.extractLsb' 48 16) 11 v r)

/-- 40 R166 with `NID_PARITY_CHECK` false (decision D8): the 64th bit is neither counted nor kept; the codeword
answered is the one of the NAC and the DUID found. -/
def Obligations.NidCheckIgnoresParityBit : Prop :=
  ∀ (v : BitVec 64) (s : State), Ready s →
    (∃ (nac : BitVec 12) (duid : BitVec 4),
      differences ((nidWord nac duid).extractLsb' 1 63) (v.extractLsb' 1 63) ≤ 11 ∧
      exec (.nidchk v) s = .next (answered s (answerDecoded (nac ++ duid) (nidWord nac duid)
        (differences ((nidWord nac duid).extractLsb' 1 63) (v.extractLsb' 1 63))))) ∨
    ((∀ (nac : BitVec 12) (duid : BitVec 4),
      11 < differences ((nidWord nac duid).extractLsb' 1 63) (v.extractLsb' 1 63)) ∧
      exec (.nidchk v) s = .next (answered s answerFail))

/-- 40 R170, R173, R175: the Hamming decoders are bounded-distance decoders at radius 1, whatever the OPEN matrices
are; Hamming(15,11) is perfect and never fails. -/
def Obligations.HammingDecodersAreBoundedDistance : Prop :=
  (∀ (v : BitVec 16) (s : State), v.toNat < 2 ^ 15 → Ready s → ∃ r,
    exec (.h15d v) s = .next (answered s r) ∧
    BoundedDistance IsHamming15 differences (fun c => c.extractLsb' 4 11) 1 (v.setWidth 15) r ∧ r.status = .ok) ∧
  (∀ (v : BitVec 16) (s : State), v.toNat < 2 ^ 10 → Ready s → ∃ r,
    exec (.h10d v) s = .next (answered s r) ∧
    BoundedDistance IsHamming10 differences (fun c => c.extractLsb' 4 6) 1 (v.setWidth 10) r)

/-- 41 R200: a product is the product of the polynomials modulo x^6+x+1, and the powers of α are all the nonzero
elements. -/
def Obligations.FieldIsPolynomialsModulo : Prop :=
  (∀ a b : Hexbit, ∃ q : BitVec 5,
    polyProduct a (b.setWidth 11) ^^^ polyProduct q (0x43 : BitVec 11) = (gfMul a b).setWidth 11) ∧
  (∀ a : Hexbit, a ≠ 0 → ∃ k < 63, gfPow gfAlpha k = a)

/-- 41 R201, R205, R207, R209: the message stands first, and the codeword vanishes at every root of the generator. -/
def Obligations.ReedSolomonEncodersGiveCodewords : Prop :=
  (∀ (v : BitVec 72) (s : State), Ready s → ∃ c : BitVec 144,
    exec (.rs2412e v) s = .next (answered s (answerOk c)) ∧ c.extractLsb' 72 72 = v ∧
    IsReedSolomon 12 (unpack 6 24 c)) ∧
  (∀ (v : BitVec 96) (s : State), Ready s → ∃ c : BitVec 144,
    exec (.rs2416e v) s = .next (answered s (answerOk c)) ∧ c.extractLsb' 48 96 = v ∧
    IsReedSolomon 8 (unpack 6 24 c)) ∧
  (∀ (v : BitVec 120) (s : State), Ready s → ∃ c : BitVec 216,
    exec (.rs3620e v) s = .next (answered s (answerOk c)) ∧ c.extractLsb' 96 120 = v ∧
    IsReedSolomon 16 (unpack 6 36 c))

/-- 41 R202, R206, R208, R210: symbol-level bounded-distance decoding at radius 6, 4 and 8. -/
def Obligations.ReedSolomonDecodersAreBoundedDistance : Prop :=
  (∀ (v : BitVec 144) (s : State), Ready s → ∃ r,
    exec (.rs2412d v) s = .next (answered s r) ∧
    BoundedDistance (fun c => IsReedSolomon 12 (unpack 6 24 c)) (symbolDifferences 24)
      (fun c => c.extractLsb' 72 72) 6 v r) ∧
  (∀ (v : BitVec 144) (s : State), Ready s → ∃ r,
    exec (.rs2416d v) s = .next (answered s r) ∧
    BoundedDistance (fun c => IsReedSolomon 8 (unpack 6 24 c)) (symbolDifferences 24)
      (fun c => c.extractLsb' 48 96) 4 v r) ∧
  (∀ (v : BitVec 216) (s : State), Ready s → ∃ r,
    exec (.rs3620d v) s = .next (answered s r) ∧
    BoundedDistance (fun c => IsReedSolomon 16 (unpack 6 36 c)) (symbolDifferences 36)
      (fun c => c.extractLsb' 96 120) 8 v r)

/-- 42 R230, R235, R237: every codeword is the table's entry for its state and its input. -/
def Obligations.TrellisEncodersFollowTable : Prop :=
  (∀ (v : BitVec 96) (s : State), Ready s → ∃ c : BitVec 196,
    exec (.t12e v) s = .next (answered s (answerOk c)) ∧ IsTrellisCoded trellis12Rows (unpack 2 48 v) c) ∧
  (∀ (v : BitVec 144) (s : State), Ready s → ∃ c : BitVec 196,
    exec (.t34e v) s = .next (answered s (answerOk c)) ∧ IsTrellisCoded trellis34Rows (unpack 3 48 v) c)

/-- 42 R234, R236, R238: the unique nearest path, its re-encoding and its distance; FAIL on a tie. -/
def Obligations.TrellisDecodersTakeNearestPath : Prop :=
  (∀ (v : BitVec 200) (s : State), v.toNat < 2 ^ 196 → Ready s → ∃ r,
    exec (.t12d v) s = .next (answered s r) ∧ TrellisDecoded (b := 2) trellis12Rows (v.setWidth 196) r) ∧
  (∀ (v : BitVec 200) (s : State), v.toNat < 2 ^ 196 → Ready s → ∃ r,
    exec (.t34d v) s = .next (answered s r) ∧ TrellisDecoded (b := 3) trellis34Rows (v.setWidth 196) r)

/-- 42 R239: the round trip of both trellis codes. -/
def Obligations.TrellisRoundTrip : Prop :=
  (∀ xs : List Dibit, xs.length = 48 →
    trellisDecode trellis12Rows (trellisEncode trellis12Rows xs) = .ok xs (trellisEncode trellis12Rows xs) 0) ∧
  (∀ xs : List Tribit, xs.length = 48 →
    trellisDecode trellis34Rows (trellisEncode trellis34Rows xs) = .ok xs (trellisEncode trellis34Rows xs) 0)

/-- 42 R240 to R243: BDILV takes codeword k from place ILV(k), and BILV puts it there. -/
def Obligations.InterleaversMoveCodewords : Prop :=
  (∀ (v : BitVec 200) (s : State), v.toNat < 2 ^ 196 → Ready s → ∃ u : BitVec 196,
    exec (.bdilv v) s = .next (answered s (answerOk u)) ∧
    ∀ k < 49, nibbleAt u k = nibbleAt (v.setWidth 196) (ilv k)) ∧
  (∀ (v : BitVec 200) (s : State), v.toNat < 2 ^ 196 → Ready s → ∃ t : BitVec 196,
    exec (.bilv v) s = .next (answered s (answerOk t)) ∧
    ∀ k < 49, nibbleAt t (ilv k) = nibbleAt (v.setWidth 196) k)

/-! ## Shared operations and parameters -/

/-- 20 R67: SCATTER replaces exactly the listed bits, GATHER reads the value back, and an index out of range raises
INDEX_RANGE. -/
def Obligations.GatherUndoesScatter : Prop :=
  ∀ (s : Bits) (idx : List Nat) (v : Nat), v < 2 ^ idx.length →
    ((∀ i ∈ idx, i < s.length) → idx.Nodup → ∃ s' : Bits, scatter s idx v = .ok s' ∧ s'.length = s.length ∧
      gather s' idx = .ok v ∧
      (∀ j < idx.length, ∀ i, idx[j]? = some i → s'[i]? = some (v.testBit (idx.length - 1 - j))) ∧
      (∀ i, i ∉ idx → s'[i]? = s[i]?)) ∧
    ((∃ i ∈ idx, s.length ≤ i) → scatter s idx v = .error .indexRange)

/-- 20 R63: the data dibits are those off the status positions, in order; the data bits are two a dibit, the high bit
first. -/
def Obligations.DataBitsSkipStatusPositions : Prop :=
  ∀ f : List Dibit,
    dataDibits f = (f.zipIdx.filter fun x => x.2 % 36 != 35).map Prod.fst ∧
    (dataDibits f).length = f.length - f.length / 36 ∧
    dataBits f = (dataDibits f).flatMap fun d => [d.getLsbD 1, d.getLsbD 0]

/-- 00 R8: the parameters are well-formed, the OPEN ones whatever their values. -/
def Obligations.ParametersAreWellFormed : Prop :=
  (trellis12Rows.length = 4 ∧ ∀ row ∈ trellis12Rows, row.length = 4 ∧ row.Nodup) ∧
  (trellis34Rows.length = 8 ∧ ∀ row ∈ trellis34Rows, row.length = 8 ∧ row.Nodup) ∧
  ((hammingColumns ham15P).length = 15 ∧ (hammingColumns ham15P).Nodup ∧ 0 ∉ hammingColumns ham15P) ∧
  ((hammingColumns ham10P).length = 10 ∧ (hammingColumns ham10P).Nodup ∧ 0 ∉ hammingColumns ham10P) ∧
  (cyc16Gen.getLsbD 8 = true ∧ (∀ i, 8 < i → cyc16Gen.getLsbD i = false) ∧
    ∀ a b : BitVec 16, IsCyclic16 a → IsCyclic16 b → a ≠ b → 5 ≤ differences a b) ∧
  blockIlv.Perm (List.range 49) ∧ voicePerm.Perm (List.range 144) ∧
  (∃ q : BitVec 17, polyProduct q (bchGen.setWidth 64) = 0x8000000000000001) ∧
  (gfPow gfAlpha 63 = 1 ∧ ∀ k, 0 < k → k < 63 → gfPow gfAlpha k ≠ 1)

/-- 70 R453: a codec command, SYNCCHK, NIDCHK or RDSTAT with an operand that fits, issued in any state, changes
nothing but the response, and a FEED after it does what it would have done without it. -/
def Obligations.PureCommandsLeaveFramerAlone : Prop :=
  ∀ (i : Instr) (op : Octet) (s : State), i.wf = true → i.isDuidRow = false → (encode i).head? = some op →
    op ∈ opcodeTable.map Prod.fst → op ≠ 0x01 → op ≠ 0x02 →
    ∃ r, exec i s = .next (answered s r) ∧ ∀ v, exec (.feed v) (answered s r) = exec (.feed v) s

/-! ## FEED -/

/-- In a state that meets the invariant and is not FAULTED, a FEED of a dibit completes: status OK, one event, the new
`st` in the response, no fault, and nothing else than framer state touched (44 R320, R334). -/
def Obligations.FeedCompletes : Prop :=
  ∀ (v : BitVec 8) (s : State), v.toNat < 4 → Inv s → Ready s → ∃ (ev : Event) (t : State),
    exec (.feed v) s = .next t ∧ t.resp = some (answerFeed ev t.st.code) ∧ t.st ≠ .faulted ∧
    t.faultCause = s.faultCause ∧ t.port = s.port

/-- 44 R321, R322, R324: a FEED in SEARCHING. -/
def Obligations.FeedSearches : Prop :=
  ∀ (v : BitVec 8) (s : State), v.toNat < 4 → s.st = .searching →
    exec (.feed v) s = .next
      (let w : BitVec 48 := (s.window <<< 2) ||| v.setWidth 48
       if differences w 0x5575F5FF77FF < 4 then
         { s with window := w, fbuf := (List.range 24).map fun i => w.extractLsb' (46 - 2 * i) 2,
                  st := .identifying, resp := some (answerFeed .sync 1) }
       else { s with window := w, resp := some (answerFeed .none 0) })

/-- 44 R338: 24 dibits fed in SEARCHING give SYNC at the 24th exactly when they differ from FS in at most 3 bits. -/
def Obligations.SyncToleratesThreeErrors : Prop :=
  ∀ (s s' : State) (ds : List Dibit) (d : Dibit) (es : List Event), s.st = .searching → ds.length = 23 →
    feedEvents ds s = some (es, s') → s'.st = .searching →
    ∃ (ev : Event) (t : State), feedEvents (ds ++ [d]) s = some (es ++ [ev], t) ∧
      (ev = .sync ↔ differences (wordAt (symbolBits (ds ++ [d])) 0 48) 0x5575F5FF77FF ≤ 3)

/-- 44 R325: a FEED in IDENTIFYING before the NID is whole appends its dibit. -/
def Obligations.FeedAccumulatesNid : Prop :=
  ∀ (v : BitVec 8) (s : State), v.toNat < 4 → s.st = .identifying → s.fbuf.length ≠ 56 →
    exec (.feed v) s = .next { s with fbuf := fed s v, resp := some (answerFeed .none 1) }

/-- 44 R326 to R328: the FEED of frame position 56. The NID within 11 bit errors of a codeword is dispatched by the
DUID of that codeword; any other rejects the candidate with NID_FAIL. -/
def Obligations.FeedResolvesNid : Prop :=
  ∀ (v : BitVec 8) (s : State) (nid : BitVec 64), v.toNat < 4 → s.st = .identifying → s.fbuf.length = 56 →
    wordAt (dataBits (fed s v)) 48 64 = nid →
    (∃ (nac : BitVec 12) (duid : BitVec 4),
      differences ((nidWord nac duid).extractLsb' 1 63) (nid.extractLsb' 1 63) ≤ 11 ∧
      exec (.feed v) s = .next (dispatched { s with fbuf := fed s v } duid nac
        (differences ((nidWord nac duid).extractLsb' 1 63) (nid.extractLsb' 1 63)))) ∨
    ((∀ (nac : BitVec 12) (duid : BitVec 4),
      11 < differences ((nidWord nac duid).extractLsb' 1 63) (nid.extractLsb' 1 63)) ∧
      exec (.feed v) s = .next (rejected s .nidFail))

/-- 44 R326 to R328: the FEED of frame position 56 runs the DUID row that the decoder reads from the NID, on the state
with the dibit appended. -/
def Obligations.FeedRunsDuidRow : Prop :=
  ∀ (v : BitVec 8) (s : State), v.toNat < 4 → s.st = .identifying → s.fbuf.length = 56 →
    exec (.feed v) s =
      match decodeNid (wordAt (dataBits (fed s v)) 48 64) with
      | some i => exec i { s with fbuf := fed s v }
      | none => .next (rejected s .nidFail)

/-- 30 R110, 43 R261, 44 R327: the eight recognized DUID rows, in the NID step, create their unit and go to READING. -/
def Obligations.RecognizedDuidsCreateUnits : Prop :=
  ∀ (s : State) (nac : BitVec 12) (errs : Nat), s.st = .identifying → s.fbuf.length = 57 →
    exec (.duid0Hdu nac errs) s = .next { s with
      unit := some (createdUnit .hdu 0x0 nac errs), st := .reading, resp := some (answerFeed .none 2) } ∧
    exec (.duid3Tdu nac errs) s = .next { s with
      unit := some (createdUnit .tdu 0x3 nac errs), st := .reading, resp := some (answerFeed .none 2) } ∧
    exec (.duid5Ldu1 nac errs) s = .next { s with
      unit := some (createdUnit .ldu1 0x5 nac errs), st := .reading, resp := some (answerFeed .none 2) } ∧
    exec (.duid7Pdu nac errs) s = .next { s with
      unit := some (createdUnit .pdu 0x7 nac errs), st := .reading, resp := some (answerFeed .none 2) } ∧
    exec (.duid9Pdu nac errs) s = .next { s with
      unit := some (createdUnit .pdu 0x9 nac errs), st := .reading, resp := some (answerFeed .none 2) } ∧
    exec (.duidALdu2 nac errs) s = .next { s with
      unit := some (createdUnit .ldu2 0xA nac errs), st := .reading, resp := some (answerFeed .none 2) } ∧
    exec (.duidCPdu nac errs) s = .next { s with
      unit := some (createdUnit .pdu 0xC nac errs), st := .reading, resp := some (answerFeed .none 2) } ∧
    exec (.duidFTdulc nac errs) s = .next { s with
      unit := some (createdUnit .tdulc 0xF nac errs), st := .reading, resp := some (answerFeed .none 2) }

/-- 30 R111, 44 R328: the eight unrecognized DUID rows, in the NID step, reject the candidate. -/
def Obligations.UnrecognizedDuidsRejectCandidate : Prop :=
  ∀ (s : State) (nac : BitVec 12) (errs : Nat), s.st = .identifying → s.fbuf.length = 57 →
    exec (.duid1Unrecognized nac errs) s = .next (rejected s .unrecognized) ∧
    exec (.duid2Unrecognized nac errs) s = .next (rejected s .unrecognized) ∧
    exec (.duid4Unrecognized nac errs) s = .next (rejected s .unrecognized) ∧
    exec (.duid6Unrecognized nac errs) s = .next (rejected s .unrecognized) ∧
    exec (.duid8Unrecognized nac errs) s = .next (rejected s .unrecognized) ∧
    exec (.duidBUnrecognized nac errs) s = .next (rejected s .unrecognized) ∧
    exec (.duidDUnrecognized nac errs) s = .next (rejected s .unrecognized) ∧
    exec (.duidEUnrecognized nac errs) s = .next (rejected s .unrecognized)

/-- The MODEL's choice (notes/assumptions/9.md): a DUID row away from the NID step stops by name. -/
def Obligations.DuidRowsStopElsewhere : Prop :=
  ∀ (i : Instr) (s : State), i.isDuidRow = true → ¬ (s.st = .identifying ∧ s.fbuf.length = 57) →
    exec i s = .fault .notAtNidStep

/-- 43 R263, R264, 44 R329, R330: a FEED in READING short of a fixed-size unit's last dibit appends its dibit. -/
def Obligations.FeedExtendsFixedUnit : Prop :=
  ∀ (v : BitVec 8) (s : State) (u : DataUnit) (size : Nat), v.toNat < 4 → s.st = .reading → s.unit = some u →
    u.life = .accumulating → (u.variant, size) ∈ sizeTable → s.fbuf.length + 1 ≠ size →
    exec (.feed v) s = .next { s with fbuf := fed s v, resp := some (answerFeed .none 2) }

/-- 43 R266, R267: from the creation of a fixed-size unit, after 57 dibits, exactly the FEED of its last dibit completes
it. -/
def Obligations.FixedUnitCompletesOnLastFeed : Prop :=
  ∀ (s : State) (u : DataUnit) (size : Nat) (ds : List Dibit), Inv s → s.st = .reading → s.unit = some u →
    (u.variant, size) ∈ sizeTable → s.fbuf.length = 57 → ds.length = size - 57 →
    ∃ t, feedEvents ds s = some (List.replicate (size - 58) .none ++ [.emitted], t) ∧
      t.st = .searching ∧ t.unit = none ∧ t.out.length = s.out.length + 1

/-- 43 R268, R270, R300 to R302: the record of a TDU, whatever its dibits. -/
def Obligations.TduRecord : Prop :=
  ∀ (v : BitVec 8) (s : State) (u : DataUnit), v.toNat < 4 → s.st = .reading → s.unit = some u →
    u.variant = .tdu → u.life = .accumulating → s.fbuf.length = 71 →
    exec (.feed v) s = .next (completed s {
      variant := .tdu, duid := u.duid, nac := u.nac, nidErrs := u.nidErrs, size := 72,
      dbits := nidWritten (dataBits (fed s v)) u.nidCw, fields := .tdu, payload := [] })

/-- 43 R269, R271 to R273, R275, R300 to R302: the record of an HDU, whatever its bits. Every Golay codeword is
corrected and written back, or fails and hands its received bits on; the header is the one whose Reed-Solomon codeword
is within 8 symbols, or zero with status FAIL; the unit is emitted either way. -/
def Obligations.HduRecord : Prop :=
  ∀ (v : BitVec 8) (s : State) (u : DataUnit) (b : Bits), v.toNat < 4 → s.st = .reading → s.unit = some u →
    u.variant = .hdu → u.life = .accumulating → s.fbuf.length = 395 → b = dataBits (fed s v) →
    ∃ (x : Nat → InnerOutcome 6 18) (y : OuterOutcome 120),
      (∀ i < 36, InnerDecoded enc18 3 (wordAt b (112 + 18 * i) 18) (x i)) ∧
      OuterDecoded 16 ((List.range 36).map fun i => (x i).info) y ∧ FailCountsNothing y ∧
      exec (.feed v) s = .next (completed s {
        variant := .hdu, duid := u.duid, nac := u.nac, nidErrs := u.nidErrs, size := 396,
        dbits := (nidWritten b u.nidCw).take 112 ++ ((List.range 36).flatMap fun i => bitsOf (x i).word) ++ b.drop 760,
        fields := .hdu {
          mi := y.value.extractLsb' 48 72, mfid := y.value.extractLsb' 40 8, algid := y.value.extractLsb' 32 8,
          kid := y.value.extractLsb' 16 16, tgid := y.value.extractLsb' 0 16, hdrStatus := y.status,
          hdrRsErrs := y.errs, innerErrs := innerErrors 36 x, innerFail := innerFailures 36 x },
        payload := octetsOf 15 y.value })

/-- 43 R269, R275, R282, R300 to R302: the record of a TDULC, whatever its bits: as for an HDU, with Golay(24,12)
codewords of two hexbits each and a Reed-Solomon radius of 6. -/
def Obligations.TdulcRecord : Prop :=
  ∀ (v : BitVec 8) (s : State) (u : DataUnit) (b : Bits), v.toNat < 4 → s.st = .reading → s.unit = some u →
    u.variant = .tdulc → u.life = .accumulating → s.fbuf.length = 215 → b = dataBits (fed s v) →
    ∃ (x : Nat → InnerOutcome 12 24) (y : OuterOutcome 72),
      (∀ i < 12, InnerDecoded enc24 3 (wordAt b (112 + 24 * i) 24) (x i)) ∧
      OuterDecoded 12 ((List.range 12).flatMap fun i => [(x i).info.extractLsb' 6 6, (x i).info.extractLsb' 0 6]) y ∧
      FailCountsNothing y ∧
      exec (.feed v) s = .next (completed s {
        variant := .tdulc, duid := u.duid, nac := u.nac, nidErrs := u.nidErrs, size := 216,
        dbits := (nidWritten b u.nidCw).take 112 ++ ((List.range 12).flatMap fun i => bitsOf (x i).word) ++ b.drop 400,
        fields := .tdulc {
          lc := y.value, lcStatus := y.status, lcRsErrs := y.errs, innerErrs := innerErrors 12 x,
          innerFail := innerFailures 12 x },
        payload := octetsOf 9 y.value })

/-- 43 R269, R275, R278, R279, R281, R300 to R302, 45 R360 to R362, R367: the record of an LDU1, whatever its bits and
the OPEN parameters: its Hamming codewords, its Link Control and its Low-Speed Data corrected, or failed as the rules
say. -/
def Obligations.Ldu1Record : Prop :=
  ∀ (v : BitVec 8) (s : State) (u : DataUnit) (b : Bits), v.toNat < 4 → s.st = .reading → s.unit = some u →
    u.variant = .ldu1 → u.life = .accumulating → s.fbuf.length = 863 →
    b = nidWritten (dataBits (fed s v)) u.nidCw →
    ∃ (x : Nat → InnerOutcome 6 10) (l : Nat → InnerOutcome 8 16) (y : OuterOutcome 72) (voice : List VoiceEntry),
      LduDecoded b x l ∧ OuterDecoded 12 ((List.range 24).map fun j => (x j).info) y ∧ FailCountsNothing y ∧
      IsRawVoice b voice ∧
      exec (.feed v) s = .next (completed s {
        variant := .ldu1, duid := u.duid, nac := u.nac, nidErrs := u.nidErrs, size := 864, dbits := lduWritten b x l,
        fields := .ldu1 {
          lc := y.value, lcStatus := y.status, lcRsErrs := y.errs, innerErrs := innerErrors 24 x,
          innerFail := innerFailures 24 x, lsd := [lsdOf (l 0), lsdOf (l 1)], voice := voice },
        payload := octetsOf 9 y.value ++ [(lsdOf (l 0)).value, (lsdOf (l 1)).value] ++
          voice.flatMap fun e => octetsOf 18 e.raw })

/-- 43 R269, R275, R278, R280, R281, R300 to R302, 45 R360 to R362, R367: the record of an LDU2, whatever its bits and
the OPEN parameters: as for an LDU1, with an Encryption Sync and a Reed-Solomon radius of 4. It says nothing about
`es_rs_errs` of an Encryption Sync that fails, a free value (notes/assumptions/21.md). -/
def Obligations.Ldu2Record : Prop :=
  ∀ (v : BitVec 8) (s : State) (u : DataUnit) (b : Bits), v.toNat < 4 → s.st = .reading → s.unit = some u →
    u.variant = .ldu2 → u.life = .accumulating → s.fbuf.length = 863 →
    b = nidWritten (dataBits (fed s v)) u.nidCw →
    ∃ (x : Nat → InnerOutcome 6 10) (l : Nat → InnerOutcome 8 16) (y : OuterOutcome 96) (voice : List VoiceEntry),
      LduDecoded b x l ∧ OuterDecoded 8 ((List.range 24).map fun j => (x j).info) y ∧ IsRawVoice b voice ∧
      exec (.feed v) s = .next (completed s {
        variant := .ldu2, duid := u.duid, nac := u.nac, nidErrs := u.nidErrs, size := 864, dbits := lduWritten b x l,
        fields := .ldu2 {
          mi := y.value.extractLsb' 24 72, algid := y.value.extractLsb' 16 8, kid := y.value.extractLsb' 0 16,
          esStatus := y.status, esRsErrs := y.errs, innerErrs := innerErrors 24 x, innerFail := innerFailures 24 x,
          lsd := [lsdOf (l 0), lsdOf (l 1)], voice := voice },
        payload := octetsOf 12 y.value ++ [(lsdOf (l 0)).value, (lsdOf (l 1)).value] ++
          voice.flatMap fun e => octetsOf 18 e.raw })

/-- 43 R287: the block count a PDU's blocks declare, and its bounds; with `HEADER_ONLY` the header declares it for
DUID 0x7 too. -/
def Obligations.PduTotalFollowsBlocks : Prop :=
  (∀ (H : Block) (bs : List Block) (duid : BitVec 4) (headerOnly : Bool),
    pduTotalWith headerOnly duid (H :: bs) =
      if H.status = .fail then some 1
      else if duid = 7 ∧ headerOnly = false then
        if ((H :: bs).getLast?.map (·.status) = some .fail) ∨
            ((H :: bs).getLast?.map (fun B => (B.octets.getD 0 0).getLsbD 7) = some true) ∨ bs.length = 2
        then some (bs.length + 1) else none
      else some (1 + (H.octets.getD 6 0).toNat % 128)) ∧
  (∀ (bs : List Block) (duid : BitVec 4) (n : Nat), pduTotal duid bs = some n →
    1 ≤ n ∧ n ≤ 128 ∨ duid = 7 ∧ n = bs.length)

/-- 42 R231, R234, R240 to R242, 43 R286: what a PDU block decodes to, for every 196 bits at either rate: the octets of
the nearest path, its errors and its re-encoding, or status FAIL on a tie; and a block received as it was sent decodes
to its octets, without errors, and keeps its bits. -/
def Obligations.PduBlockDecodes : Prop :=
  (∀ t : BitVec 196, ∃ blk, decodeBlock .half t = .ok blk ∧ BlockDecoded (b := 2) trellis12Rows .half 12 t blk) ∧
  (∀ t : BitVec 196, ∃ blk, decodeBlock .threeQuarters t = .ok blk ∧
    BlockDecoded (b := 3) trellis34Rows .threeQuarters 18 t blk) ∧
  (∀ (v : BitVec 96) (c t : BitVec 196), IsTrellisCoded trellis12Rows (unpack 2 48 v) c → IsInterleaved c t →
    decodeBlock .half t = .ok { status := .ok, rate := .half, octets := octetsOf 12 v, errs := 0, cw := t }) ∧
  (∀ (v : BitVec 144) (c t : BitVec 196), IsTrellisCoded trellis34Rows (unpack 3 48 v) c → IsInterleaved c t →
    decodeBlock .threeQuarters t =
      .ok { status := .ok, rate := .threeQuarters, octets := octetsOf 18 v, errs := 0, cw := t })

/-- 43 R263, R264, R285, R286, R288 to R290, R300 to R302: a FEED of a PDU in READING. Away from the end of a block it
appends; at the end of block k it decodes the block, at rate 3/4 when k is not 0, the DUID is not 0x7 and the header's
format is 0x16, and at rate 1/2 otherwise; when the blocks reach the declared total the record is emitted. What
`decodeBlock` answers is the subject of PduBlockDecodes. -/
def Obligations.FeedReadsPdu : Prop :=
  ∀ (v : BitVec 8) (s : State) (u : DataUnit) (k : Nat), v.toNat < 4 → s.st = .reading → s.unit = some u →
    u.variant = .pdu → u.life = .accumulating → k = u.blocks.length → u.total ≠ some k →
    ((s.fbuf.length % 36 = 35 ∨ ndata (fed s v).length ≠ 56 + 98 * (k + 1)) →
      exec (.feed v) s = .next { s with fbuf := fed s v, resp := some (answerFeed .none 2) }) ∧
    (s.fbuf.length % 36 ≠ 35 → ndata (fed s v).length = 56 + 98 * (k + 1) → ∃ (blk : Block) (bs : List Block),
      decodeBlock
          (if k ≠ 0 ∧ u.duid ≠ 0x7 ∧ (u.blocks.head?.map fun H => (H.octets.getD 0 0).extractLsb' 0 5) = some 0x16
           then .threeQuarters else .half)
          (wordAt (dataBits (fed s v)) (112 + 196 * k) 196) = .ok blk ∧
      bs = u.blocks ++ [blk] ∧
      (pduTotal u.duid bs ≠ some (k + 1) →
        exec (.feed v) s = .next { s with
          fbuf := fed s v, unit := some { u with blocks := bs, total := pduTotal u.duid bs },
          resp := some (answerFeed .none 2) }) ∧
      (pduTotal u.duid bs = some (k + 1) → ∃ d : Bits,
        d.length = 112 + 196 * (k + 1) ∧ d.take 112 = (nidWritten (dataBits (fed s v)) u.nidCw).take 112 ∧
        (∀ j ≤ k, ∀ x, bs[j]? = some x → wordAt d (112 + 196 * j) 196 =
          if x.status = .ok then x.cw else wordAt (dataBits (fed s v)) (112 + 196 * j) 196) ∧
        exec (.feed v) s = .next (completed s {
          variant := .pdu, duid := u.duid, nac := u.nac, nidErrs := u.nidErrs, size := (fed s v).length, dbits := d,
          fields := .pdu {
            blocks := bs.map fun x => ⟨x.status, x.rate, x.octets, x.errs⟩,
            format := match bs.head? with
              | some H => if H.status = .ok then (H.octets.getD 0 0).setWidth 5 else 0
              | none => 0,
            total := k + 1 },
          payload := bs.flatMap (·.octets) })))

/-! ## Whole-machine rules -/

/-- 20 R64: two states that differ at most in dibits at status positions stay so under a FEED, whose dibit too may
differ when it falls on a status position: same response, same records, same everything else. -/
def Obligations.StatusSymbolsNeverMatter : Prop :=
  ∀ (s s' : State) (v v' : BitVec 8), AgreeOffStatus s s' → v.toNat < 4 → v'.toNat < 4 →
    (v = v' ∨ s.st ≠ .searching ∧ s.fbuf.length % 36 = 35) →
    ∃ t t' : State, exec (.feed v) s = .next t ∧ exec (.feed v') s' = .next t' ∧ AgreeOffStatus t t'

/-- 10 R36: `unrec` counts the NID_FAIL and UNRECOGNIZED events modulo 2^32, RESET clears it, nothing else changes it,
RDSTAT reports it, and it is 0 at reset. -/
def Obligations.UnrecCountsRejectedCandidates : Prop :=
  State.reset.unrec = 0 ∧
  (∀ s : State, ∃ w : BitVec 64, exec .rdstat s = .next (answered s (answerOk w)) ∧ w.extractLsb' 0 32 = s.unrec) ∧
  (∀ (i : Instr) (s t : State), exec i s = .next t →
    (i = .reset → t.unrec = 0) ∧
    (i ≠ .reset → ∃ r, t.resp = some r ∧
      t.unrec = if r.event = .nidFail ∨ r.event = .unrecognized then s.unrec + 1 else s.unrec))

/-- 10 R40, 20 R73: an instruction appends one record, with the event EMITTED, or none; it removes none; and what it
does does not depend on the records already there. -/
def Obligations.OutputIsAppendOnlyAndNeverRead : Prop :=
  ∀ (i : Instr) (s t : State), exec i s = .next t →
    (∃ r, t.resp = some r ∧ (r.event = .emitted ∧ (∃ x, t.out = s.out ++ [x]) ∧ t.st = .searching ∧ t.unit = none ∨
      r.event ≠ .emitted ∧ t.out = s.out)) ∧
    ∀ o : List Record, exec i { s with out := o } = .next { t with out := o ++ t.out.drop s.out.length }

/-- 10 R32: the window is written only by a FEED in SEARCHING, which shifts it, and by an entry to SEARCHING, which
clears it. -/
def Obligations.WindowWrittenOnlyInSearch : Prop :=
  ∀ (i : Instr) (s t : State), exec i s = .next t →
    t.window = s.window ∨
    (s.st = .searching ∧ ∃ v : BitVec 8, i = .feed v ∧ t.window = (s.window <<< 2) ||| v.setWidth 48) ∨
    (t.st = .searching ∧ t.window = 0 ∧ t.fbuf = [] ∧ t.unit = none)

end Slice0
end

