-- ==== Sys2Proof/Laws/Bits.lean ====
section
/-!
SUPPORT. What the bit utilities do, said once: lengths, ranges, and when each of them raises INDEX_RANGE.
-/

namespace Sys2Proof.Machine

/-! ## Lengths -/

@[simp] theorem bits_length (v n : Nat) : (bits v n).length = n := by simp [bits]

@[simp] theorem bitsOf_length {n : Nat} (v : BitVec n) : (bitsOf v).length = n := by simp [bitsOf]

@[simp] theorem span_length (a n : Nat) : (span a n).length = n := by simp [span]

theorem mem_span {a n i : Nat} : i ∈ span a n ↔ a ≤ i ∧ i < a + n := by
  simp [span, List.mem_range'_1]

@[simp] theorem setBits_length (s : Bits) (idx : List Nat) (b : Bits) : (setBits s idx b).length = s.length := by
  induction s, idx, b using setBits.induct with
  | case1 s i is b bs ih => simpa [setBits] using ih
  | case2 s idx b h => rw [setBits]; simpa using h

@[simp] theorem symbols_length (w : Nat) (s : Bits) : (symbols w s).length = s.length / w := by simp [symbols]

@[simp] theorem symbolBits_nil {w : Nat} : symbolBits ([] : List (BitVec w)) = [] := rfl

@[simp] theorem symbolBits_cons {w : Nat} (x : BitVec w) (l : List (BitVec w)) :
    symbolBits (x :: l) = bitsOf x ++ symbolBits l := rfl

theorem symbolBits_length {w : Nat} (l : List (BitVec w)) : (symbolBits l).length = w * l.length := by
  induction l with
  | nil => rfl
  | cons x l ih => simp [ih, Nat.mul_add]; omega

/-! ## Numbers -/

theorem int_snoc (s : Bits) (b : Bool) : int (s ++ [b]) = 2 * int s + b.toNat := by simp [int]

/-- `int` of an n-bit sequence is below 2^n. -/
theorem int_lt (s : Bits) : int s < 2 ^ s.length := by
  induction s using List.reverseRecOn with
  | nil => simp [int]
  | append_singleton s b ih =>
    rw [int_snoc, List.length_append, List.length_singleton, Nat.pow_succ]
    cases b <;> simp <;> omega

theorem bits_succ (v n : Nat) : bits v (n + 1) = bits (v / 2) n ++ [v.testBit 0] := by
  simp only [bits, List.range_succ, List.map_append, List.map_cons, List.map_nil, Nat.add_sub_cancel, Nat.sub_self]
  congr 1
  refine List.map_congr_left fun i hi => ?_
  have hi : i < n := List.mem_range.mp hi
  rw [show n - i = (n - 1 - i) + 1 by omega, Nat.testBit_succ]

/-- `int` undoes `bits` on numbers that fit. -/
theorem int_bits (v n : Nat) (h : v < 2 ^ n) : int (bits v n) = v := by
  induction n generalizing v with
  | zero => simp [bits, int]; omega
  | succ n ih =>
    have hv : v / 2 < 2 ^ n := by rw [Nat.pow_succ] at h; omega
    rw [bits_succ, int_snoc, ih _ hv, Nat.testBit_zero]
    rcases Nat.mod_two_eq_zero_or_one v with h2 | h2 <;> simp [h2] <;> omega

/-- `bits` undoes `int`. -/
theorem bits_int (s : Bits) : bits (int s) s.length = s := by
  induction s using List.reverseRecOn with
  | nil => simp [bits]
  | append_singleton s b ih =>
    rw [List.length_append, List.length_singleton, bits_succ, int_snoc]
    have h : (2 * int s + b.toNat) / 2 = int s := by cases b <;> simp <;> omega
    rw [h, ih, Nat.testBit_zero]
    cases b <;> simp [Nat.add_mod]

/-! ## INDEX_RANGE -/

/-- EXTRACT gives the bits in range, and INDEX_RANGE out of range. -/
theorem extract_eq_ok {s : Bits} {a b : Nat} (hab : a ≤ b) (hb : b ≤ s.length) :
    extract s a b = .ok (int ((s.drop a).take (b - a))) := by simp [extract, hab, hb]

theorem extract_error {s : Bits} {a b : Nat} {c : FaultCause} (h : extract s a b = .error c) : c = .indexRange := by
  unfold extract at h
  split at h
  · cases h
  · injection h with h; exact h.symm

theorem inRange_iff {s : Bits} {idx : List Nat} : inRange s idx = true ↔ ∀ i ∈ idx, i < s.length := by
  simp [inRange]

/-- GATHER gives the bits in range, and INDEX_RANGE out of range. -/
theorem gather_eq_ok {s : Bits} {idx : List Nat} (h : ∀ i ∈ idx, i < s.length) :
    gather s idx = .ok (int (idx.map fun i => s.getD i false)) := by simp [gather, inRange_iff.mpr h]

theorem gather_error {s : Bits} {idx : List Nat} {c : FaultCause} (h : gather s idx = .error c) : c = .indexRange := by
  unfold gather at h
  split at h
  · cases h
  · injection h with h; exact h.symm

/-- SCATTER replaces the bits in range, and raises INDEX_RANGE out of range. -/
theorem scatter_eq_ok {s : Bits} {idx : List Nat} {v : Nat} (h : ∀ i ∈ idx, i < s.length) :
    scatter s idx v = .ok (setBits s idx (bits v idx.length)) := by simp [scatter, inRange_iff.mpr h]

theorem scatter_error {s : Bits} {idx : List Nat} {v : Nat} {c : FaultCause} (h : scatter s idx v = .error c) :
    c = .indexRange := by
  unfold scatter at h
  split at h
  · cases h
  · injection h with h; exact h.symm

/-- What SCATTER answers has the length it was given. -/
theorem scatter_length {s s' : Bits} {idx : List Nat} {v : Nat} (h : scatter s idx v = .ok s') :
    s'.length = s.length := by
  unfold scatter at h
  split at h
  · injection h with h; simp [← h]
  · cases h

/-! ## Frame positions -/

theorem ndata_succ (L : Nat) : ndata (L + 1) = ndata L + if isStatus L then 0 else 1 := by
  simp only [ndata, isStatus, statusPeriod, beq_iff_eq]
  split <;> omega

theorem dataDibitsFrom_length (p : Nat) (f : List Dibit) :
    (dataDibitsFrom p f).length + ndata p = ndata (p + f.length) := by
  induction f generalizing p with
  | nil => simp [dataDibitsFrom]
  | cons d f ih =>
    have h := ih (p + 1)
    rw [ndata_succ] at h
    rw [show p + (d :: f).length = p + 1 + f.length by simp; omega, ← h, dataDibitsFrom]
    split <;> simp <;> omega

/-- A frame of L dibits has 2·ndata(L) data bits (R63). -/
theorem dataBits_length (f : List Dibit) : (dataBits f).length = 2 * ndata f.length := by
  have h := dataDibitsFrom_length 0 f
  simp only [Nat.zero_add] at h
  rw [dataBits, symbolBits_length, dataDibits, ← h]
  simp [ndata]

end Sys2Proof.Machine
end

