-- ==== Sys2Proof/Laws/Codes.lean ====
section
/-!
SUPPORT. What the counting operations and the codec searches do, said once.
-/

namespace Sys2Proof.Machine

/-! ## Counting ones -/

theorem nibbleOnes_lookup : ∀ d < 16,
    (nibbleOnes >>> (4 * d)) % 16 = ((List.range 4).filter fun i => d.testBit i).length := by decide

theorem countOnes_eq (n v : Nat) : countOnes n v = ((List.range (4 * n)).filter fun i => v.testBit i).length := by
  induction n generalizing v with
  | zero => rfl
  | succ n ih =>
    rw [countOnes, ih, nibbleOnes_lookup _ (Nat.mod_lt _ (by decide)), Nat.mul_succ, Nat.add_comm (4 * n) 4,
      List.range_add, List.filter_append, List.length_append, List.filter_map, List.length_map]
    congr 2
    · refine List.filter_congr fun i hi => ?_
      have hi : i < 4 := List.mem_range.mp hi
      rw [show (16 : Nat) = 2 ^ 4 from rfl, Nat.testBit_mod_two_pow]
      simp [hi]
    · refine List.filter_congr fun i _ => ?_
      rw [show (16 : Nat) = 2 ^ 4 from rfl, Nat.testBit_div_two_pow, Function.comp_apply, Nat.add_comm]

/-- `popcount` is the number of one bits (R10). -/
theorem popcount_eq {n : Nat} (v : BitVec n) : popcount v = ((List.range n).filter fun i => v.getLsbD i).length := by
  obtain ⟨k, hk⟩ : ∃ k, 4 * ((n + 3) / 4) = n + k := ⟨4 * ((n + 3) / 4) - n, by omega⟩
  rw [popcount, countOnes_eq, hk, List.range_add, List.filter_append, List.length_append]
  have h0 : ((List.range k).map (n + ·)).filter (fun i => v.toNat.testBit i) = [] := by
    rw [List.filter_eq_nil_iff]
    intro i hi
    obtain ⟨j, -, rfl⟩ := List.mem_map.mp hi
    simp [BitVec.testBit_toNat]
  rw [h0]
  simp [BitVec.testBit_toNat]

/-- `dist` is the number of positions where two words differ (R10). -/
theorem dist_eq {n : Nat} (a b : BitVec n) :
    dist a b = ((List.range n).filter fun i => a.getLsbD i != b.getLsbD i).length := by
  rw [dist, popcount_eq]
  congr 1
  refine List.filter_congr fun i _ => ?_
  simp [BitVec.getLsbD_xor]

theorem dist_comm {n : Nat} (a b : BitVec n) : dist a b = dist b a := by rw [dist, dist, BitVec.xor_comm]

@[simp] theorem dist_self {n : Nat} (a : BitVec n) : dist a a = 0 := by
  rw [dist_eq, List.length_eq_zero_iff, List.filter_eq_nil_iff]; simp

theorem sdist_self {n : Nat} (l : List (BitVec n)) : sdist l l = 0 := by
  induction l with
  | nil => rfl
  | cons a l ih => simp [sdist, ih]

/-! ## The search of a linear code -/

/-- The words `c` + (sums of the rows), in the order the search visits them. -/
def sums {n : Nat} : List (BitVec n) → BitVec n → List (BitVec n)
  | [], c => [c]
  | g :: gs, c => sums gs c ++ sums gs (c ^^^ g)

/-- The search is a find over the sums: its answer is among them and within the radius, and it answers none only
when no sum is (R150). -/
theorem searchCode_eq_find {n : Nat} (t : Nat) (r : BitVec n) (gs : List (BitVec n)) (c : BitVec n) :
    searchCode t r gs c = (sums gs c).find? fun x => decide (dist x r ≤ t) := by
  induction gs generalizing c with
  | nil =>
    by_cases h : dist c r ≤ t
    · simp [searchCode, sums, h]
    · simp [searchCode, sums, h]
  | cons g gs ih =>
    rw [searchCode, sums, List.find?_append, ih, ih]
    cases (sums gs c).find? fun x => decide (dist x r ≤ t) <;> rfl

theorem searchCode_some {n : Nat} {t : Nat} {r : BitVec n} {gs : List (BitVec n)} {c x : BitVec n}
    (h : searchCode t r gs c = some x) : x ∈ sums gs c ∧ dist x r ≤ t := by
  rw [searchCode_eq_find] at h
  exact ⟨List.mem_of_find?_eq_some h, by simpa using List.find?_some h⟩

theorem searchCode_none {n : Nat} {t : Nat} {r : BitVec n} {gs : List (BitVec n)} {c : BitVec n}
    (h : searchCode t r gs c = none) : ∀ x ∈ sums gs c, t < dist x r := by
  rw [searchCode_eq_find, List.find?_eq_none] at h
  intro x hx
  simpa using h x hx

/-- A bounded-distance decode answers a word within the radius, its information bits, and its distance (R150). -/
theorem bdd_ok {k n : Nat} {enc : BitVec k → BitVec n} {t : Nat} {r : BitVec n} {m : BitVec k} {c : BitVec n} {e : Nat}
    (h : bdd enc t r = .ok m c e) :
    c ∈ sums (generatorRows enc) (enc (infoBits k r)) ∧ dist c r ≤ t ∧ m = infoBits k c ∧ e = dist c r := by
  unfold bdd at h
  split at h
  · next x hx =>
    injection h with h1 h2 h3
    subst h1 h2 h3
    exact ⟨(searchCode_some hx).1, (searchCode_some hx).2, rfl, rfl⟩
  · cases h

/-! ## Reed-Solomon -/

/-- What the Reed-Solomon decoder answers is a codeword, within the radius, with its information symbols first and
its distance counted (R202). -/
theorem rsDecode_ok {r : Nat} {word m c : List Hexbit} {e : Nat} (h : rsDecode r word = .ok m c e) :
    rsEncode r m = c ∧ e = sdist c word ∧ e ≤ r / 2 := by
  unfold rsDecode at h
  dsimp only at h
  split at h
  · next hc =>
    injection h with h1 h2 h3
    subst h1 h2 h3
    exact ⟨hc.1, rfl, hc.2⟩
  · cases h

/-! ## Trellis -/

theorem trellisFrom_length {b : Nat} (rows : List (List Nibble)) (s : BitVec b) (xs : List (BitVec b)) :
    (trellisFrom rows s xs).length = xs.length := by
  induction xs generalizing s with
  | nil => rfl
  | cons x xs ih => simp [trellisFrom, ih]

/-- The decoder answers one input for every codeword (R234). -/
theorem trellisSteps_length {b : Nat} {rows : List (List Nibble)} {s : BitVec b} {ws : List Nibble}
    {ys : List (BitVec b)} {e : Nat} (h : trellisSteps rows s ws = some (ys, e)) : ys.length = ws.length := by
  induction ws generalizing s ys e with
  | nil => simp [trellisSteps] at h; simp [← h.1]
  | cons w ws ih =>
    rw [trellisSteps] at h
    split at h
    · split at h
      · next heq =>
        injection h with h
        injection h with h1 h2
        simp [← h1, ih heq]
      · cases h
    · cases h

end Sys2Proof.Machine
end

