-- ==== Sys2Proof/Laws/State.lean ====
section
/-!
SUPPORT. Every field of the state after every shared update.
-/

namespace Sys2Proof.Machine

/-! ## enterSearching -/

@[simp] theorem enterSearching_st (s : State) : (enterSearching s).st = .searching := rfl
@[simp] theorem enterSearching_window (s : State) : (enterSearching s).window = 0 := rfl
@[simp] theorem enterSearching_fbuf (s : State) : (enterSearching s).fbuf = [] := rfl
@[simp] theorem enterSearching_unit (s : State) : (enterSearching s).unit = none := rfl
@[simp] theorem enterSearching_unrec (s : State) : (enterSearching s).unrec = s.unrec := rfl
@[simp] theorem enterSearching_faultCause (s : State) : (enterSearching s).faultCause = s.faultCause := rfl
@[simp] theorem enterSearching_out (s : State) : (enterSearching s).out = s.out := rfl
@[simp] theorem enterSearching_port (s : State) : (enterSearching s).port = s.port := rfl
@[simp] theorem enterSearching_resp (s : State) : (enterSearching s).resp = s.resp := rfl

/-! ## countUnrecognized -/

@[simp] theorem countUnrecognized_st (s : State) : (countUnrecognized s).st = s.st := rfl
@[simp] theorem countUnrecognized_window (s : State) : (countUnrecognized s).window = s.window := rfl
@[simp] theorem countUnrecognized_fbuf (s : State) : (countUnrecognized s).fbuf = s.fbuf := rfl
@[simp] theorem countUnrecognized_unit (s : State) : (countUnrecognized s).unit = s.unit := rfl
@[simp] theorem countUnrecognized_unrec (s : State) : (countUnrecognized s).unrec = s.unrec + 1 := rfl
@[simp] theorem countUnrecognized_faultCause (s : State) : (countUnrecognized s).faultCause = s.faultCause := rfl
@[simp] theorem countUnrecognized_out (s : State) : (countUnrecognized s).out = s.out := rfl
@[simp] theorem countUnrecognized_port (s : State) : (countUnrecognized s).port = s.port := rfl
@[simp] theorem countUnrecognized_resp (s : State) : (countUnrecognized s).resp = s.resp := rfl

/-! ## emit -/

@[simp] theorem emit_st (r : Record) (s : State) : (emit r s).st = s.st := rfl
@[simp] theorem emit_window (r : Record) (s : State) : (emit r s).window = s.window := rfl
@[simp] theorem emit_fbuf (r : Record) (s : State) : (emit r s).fbuf = s.fbuf := rfl
@[simp] theorem emit_unit (r : Record) (s : State) : (emit r s).unit = s.unit := rfl
@[simp] theorem emit_unrec (r : Record) (s : State) : (emit r s).unrec = s.unrec := rfl
@[simp] theorem emit_faultCause (r : Record) (s : State) : (emit r s).faultCause = s.faultCause := rfl
@[simp] theorem emit_out (r : Record) (s : State) : (emit r s).out = s.out ++ [r] := rfl
@[simp] theorem emit_port (r : Record) (s : State) : (emit r s).port = s.port := rfl
@[simp] theorem emit_resp (r : Record) (s : State) : (emit r s).resp = s.resp := rfl

/-! ## respond -/

@[simp] theorem respond_st (r : Response) (s : State) : (respond r s).st = s.st := rfl
@[simp] theorem respond_window (r : Response) (s : State) : (respond r s).window = s.window := rfl
@[simp] theorem respond_fbuf (r : Response) (s : State) : (respond r s).fbuf = s.fbuf := rfl
@[simp] theorem respond_unit (r : Response) (s : State) : (respond r s).unit = s.unit := rfl
@[simp] theorem respond_unrec (r : Response) (s : State) : (respond r s).unrec = s.unrec := rfl
@[simp] theorem respond_faultCause (r : Response) (s : State) : (respond r s).faultCause = s.faultCause := rfl
@[simp] theorem respond_out (r : Response) (s : State) : (respond r s).out = s.out := rfl
@[simp] theorem respond_port (r : Response) (s : State) : (respond r s).port = s.port := rfl
@[simp] theorem respond_resp (r : Response) (s : State) : (respond r s).resp = some r := rfl

/-! ## raiseFault -/

@[simp] theorem raiseFault_st (c : FaultCause) (s : State) : (raiseFault c s).st = .faulted := rfl
@[simp] theorem raiseFault_window (c : FaultCause) (s : State) : (raiseFault c s).window = s.window := rfl
@[simp] theorem raiseFault_fbuf (c : FaultCause) (s : State) : (raiseFault c s).fbuf = s.fbuf := rfl
@[simp] theorem raiseFault_unit (c : FaultCause) (s : State) : (raiseFault c s).unit = s.unit := rfl
@[simp] theorem raiseFault_unrec (c : FaultCause) (s : State) : (raiseFault c s).unrec = s.unrec := rfl
@[simp] theorem raiseFault_faultCause (c : FaultCause) (s : State) : (raiseFault c s).faultCause = c.code := rfl
@[simp] theorem raiseFault_out (c : FaultCause) (s : State) : (raiseFault c s).out = s.out := rfl
@[simp] theorem raiseFault_port (c : FaultCause) (s : State) : (raiseFault c s).port = s.port := rfl
@[simp] theorem raiseFault_resp (c : FaultCause) (s : State) : (raiseFault c s).resp = some faultedResponse := rfl

/-! ## refuse -/

@[simp] theorem refuse_st (s : State) : (refuse s).st = s.st := rfl
@[simp] theorem refuse_window (s : State) : (refuse s).window = s.window := rfl
@[simp] theorem refuse_fbuf (s : State) : (refuse s).fbuf = s.fbuf := rfl
@[simp] theorem refuse_unit (s : State) : (refuse s).unit = s.unit := rfl
@[simp] theorem refuse_unrec (s : State) : (refuse s).unrec = s.unrec := rfl
@[simp] theorem refuse_faultCause (s : State) : (refuse s).faultCause = s.faultCause := rfl
@[simp] theorem refuse_out (s : State) : (refuse s).out = s.out := rfl
@[simp] theorem refuse_port (s : State) : (refuse s).port = s.port := rfl
@[simp] theorem refuse_resp (s : State) : (refuse s).resp = some faultedResponse := rfl

/-! ## resetBlock -/

@[simp] theorem resetBlock_st (s : State) : (resetBlock s).st = .searching := rfl
@[simp] theorem resetBlock_window (s : State) : (resetBlock s).window = 0 := rfl
@[simp] theorem resetBlock_fbuf (s : State) : (resetBlock s).fbuf = [] := rfl
@[simp] theorem resetBlock_unit (s : State) : (resetBlock s).unit = none := rfl
@[simp] theorem resetBlock_unrec (s : State) : (resetBlock s).unrec = 0 := rfl
@[simp] theorem resetBlock_faultCause (s : State) : (resetBlock s).faultCause = 0 := rfl
@[simp] theorem resetBlock_out (s : State) : (resetBlock s).out = s.out := rfl
@[simp] theorem resetBlock_port (s : State) : (resetBlock s).port = s.port := rfl
@[simp] theorem resetBlock_resp (s : State) : (resetBlock s).resp = s.resp := rfl

/-! ## rejectCandidate -/

@[simp] theorem rejectCandidate_st (s : State) : (rejectCandidate s).st = .searching := rfl
@[simp] theorem rejectCandidate_window (s : State) : (rejectCandidate s).window = 0 := rfl
@[simp] theorem rejectCandidate_fbuf (s : State) : (rejectCandidate s).fbuf = [] := rfl
@[simp] theorem rejectCandidate_unit (s : State) : (rejectCandidate s).unit = none := rfl
@[simp] theorem rejectCandidate_unrec (s : State) : (rejectCandidate s).unrec = s.unrec + 1 := rfl
@[simp] theorem rejectCandidate_faultCause (s : State) : (rejectCandidate s).faultCause = s.faultCause := rfl
@[simp] theorem rejectCandidate_out (s : State) : (rejectCandidate s).out = s.out := rfl
@[simp] theorem rejectCandidate_port (s : State) : (rejectCandidate s).port = s.port := rfl
@[simp] theorem rejectCandidate_resp (s : State) : (rejectCandidate s).resp = s.resp := rfl

/-! ## Updates that act alike -/

theorem enterSearching_idem (s : State) : enterSearching (enterSearching s) = enterSearching s := rfl

theorem respond_respond (r r' : Response) (s : State) : respond r (respond r' s) = respond r s := rfl

@[simp] theorem pos_eq (s : State) : s.pos = s.fbuf.length := rfl

end Sys2Proof.Machine
end

