-- ==== Sys2Proof/Laws/Commands.lean ====
section
/-!
SUPPORT. What the checks before a command do (R413), and what a pure command answers, said once.
-/

namespace Sys2Proof.Machine

theorem withOperand_faulted {n : Nat} (W : Nat) (v : BitVec n) (s : State) (run : BitVec W → State)
    (h : s.st = .faulted) : withOperand W v s run = refuse s := by simp [withOperand, h]

theorem withOperand_overwide {n : Nat} (W : Nat) (v : BitVec n) (s : State) (run : BitVec W → State)
    (h : s.st ≠ .faulted) (hv : 2 ^ W ≤ v.toNat) : withOperand W v s run = raiseFault .operandRange s := by
  simp [withOperand, h, hv]

theorem withOperand_run {n : Nat} (W : Nat) (v : BitVec n) (s : State) (run : BitVec W → State)
    (h : s.st ≠ .faulted) (hv : v.toNat < 2 ^ W) : withOperand W v s run = run (v.setWidth W) := by
  simp [withOperand, h, Nat.not_le.mpr hv]

/-- An operand field of exactly W bits always fits (R130). -/
theorem withOperand_full (W : Nat) (v : BitVec W) (s : State) (run : BitVec W → State)
    (h : s.st ≠ .faulted) : withOperand W v s run = run v := by
  rw [withOperand_run W v s run h v.isLt, BitVec.setWidth_eq]

/-- Everything the checks can do, in the order of R413. -/
theorem withOperand_cases {n : Nat} (W : Nat) (v : BitVec n) (s : State) (run : BitVec W → State) :
    (s.st = .faulted ∧ withOperand W v s run = refuse s) ∨
    (s.st ≠ .faulted ∧ 2 ^ W ≤ v.toNat ∧ withOperand W v s run = raiseFault .operandRange s) ∨
    (s.st ≠ .faulted ∧ v.toNat < 2 ^ W ∧ withOperand W v s run = run (v.setWidth W)) := by
  by_cases h : s.st = .faulted
  · exact .inl ⟨h, withOperand_faulted W v s run h⟩
  · rcases Nat.lt_or_ge v.toNat (2 ^ W) with hv | hv
    · exact .inr (.inr ⟨h, hv, withOperand_run W v s run h hv⟩)
    · exact .inr (.inl ⟨h, hv, withOperand_overwide W v s run h hv⟩)

theorem pureCommand_run {n : Nat} (W : Nat) (v : BitVec n) (f : BitVec W → Response) (s : State)
    (h : s.st ≠ .faulted) (hv : v.toNat < 2 ^ W) : pureCommand W v f s = .next (respond (f (v.setWidth W)) s) := by
  rw [pureCommand, withOperand_run W v s _ h hv]

theorem pureCommand_full (W : Nat) (v : BitVec W) (f : BitVec W → Response) (s : State)
    (h : s.st ≠ .faulted) : pureCommand W v f s = .next (respond (f v) s) := by
  rw [pureCommand, withOperand_full W v s _ h]

/-- A pure command answers a next state that differs at most in its response, or is the entry into FAULTED. -/
theorem pureCommand_frame {n : Nat} (W : Nat) (v : BitVec n) (f : BitVec W → Response) (s t : State)
    (h : pureCommand W v f s = .next t) : (∃ r, t = respond r s) ∨ t = raiseFault .operandRange s := by
  unfold pureCommand at h
  injection h with h
  rcases withOperand_cases W v s fun m => respond (f m) s with ⟨_, e⟩ | ⟨_, _, e⟩ | ⟨_, _, e⟩
  · exact .inl ⟨_, by rw [← h, e, refuse]⟩
  · exact .inr (by rw [← h, e])
  · exact .inl ⟨_, by rw [← h, e]⟩

theorem unlessFaulted_ready (s run : State) (h : s.st ≠ .faulted) : unlessFaulted s run = run := by
  simp [unlessFaulted, h]

theorem unlessFaulted_faulted (s run : State) (h : s.st = .faulted) : unlessFaulted s run = refuse s := by
  simp [unlessFaulted, h]

end Sys2Proof.Machine
end

