-- ==== Sys2Proof/Laws/DataUnits.lean ====
section
/-!
SUPPORT. What the inner and the outer decodes of a unit can do, said once (43 R269, R272, R275, R302).
-/

namespace Sys2Proof.Machine

/-- An inner codeword in range is corrected and written back, or fails, is counted and stays as received (R269). -/
theorem innerDecode_cases {k n : Nat} (dec : BitVec n → Decoded (BitVec k) (BitVec n)) {idx : List Nat} {acc : InnerAcc}
    {r : BitVec n} (hidx : ∀ i ∈ idx, i < acc.dbits.length)
    (hr : r = BitVec.ofNat n (int (idx.map fun i => acc.dbits.getD i false))) :
    (∃ m c e, dec r = .ok m c e ∧
      innerDecode dec idx acc = .ok (m, { acc with
        dbits := setBits acc.dbits idx (bits c.toNat idx.length), errs := acc.errs + e })) ∨
    (dec r = .fail ∧
      innerDecode dec idx acc = .ok (r.extractLsb' (n - k) k, { acc with fails := acc.fails + 1 })) := by
  subst hr
  simp only [innerDecode, gather_eq_ok hidx, bind, Except.bind, pure, Except.pure]
  cases h : dec (BitVec.ofNat n (int (idx.map fun i => acc.dbits.getD i false))) with
  | ok m c e => exact .inl ⟨m, c, e, rfl, by simp [scatter_eq_ok hidx]⟩
  | fail => exact .inr ⟨rfl, rfl⟩

/-- An inner decode keeps the number of data bits (R302). -/
theorem innerDecode_length {k n : Nat} {dec : BitVec n → Decoded (BitVec k) (BitVec n)} {idx : List Nat}
    {acc acc' : InnerAcc} {m : BitVec k} (hidx : ∀ i ∈ idx, i < acc.dbits.length)
    (h : innerDecode dec idx acc = .ok (m, acc')) : acc'.dbits.length = acc.dbits.length := by
  obtain ⟨_, c, _, -, h'⟩ | ⟨-, h'⟩ := innerDecode_cases dec hidx rfl <;> rw [h'] at h <;> cases h
  · exact setBits_length ..
  · rfl

/-- Inner codewords in range all decode, one after the other, and keep the number of data bits (R271, R278, R282). -/
theorem innerDecodeAll_ok {k n : Nat} (dec : BitVec n → Decoded (BitVec k) (BitVec n)) (idxs : List (List Nat))
    (acc : InnerAcc) (hidx : ∀ idx ∈ idxs, ∀ i ∈ idx, i < acc.dbits.length) :
    ∃ ms acc', innerDecodeAll dec idxs acc = .ok (ms, acc') ∧ ms.length = idxs.length ∧
      acc'.dbits.length = acc.dbits.length := by
  induction idxs generalizing acc with
  | nil => exact ⟨[], acc, rfl, rfl, rfl⟩
  | cons idx rest ih =>
    have hhead := hidx idx (by simp)
    obtain ⟨m, acc', h⟩ : ∃ m acc', innerDecode dec idx acc = .ok (m, acc') := by
      obtain ⟨m, c, e, -, h⟩ | ⟨-, h⟩ := innerDecode_cases dec hhead rfl
      · exact ⟨_, _, h⟩
      · exact ⟨_, _, h⟩
    have hlen := innerDecode_length hhead h
    obtain ⟨ms, acc'', h', hms, hlen'⟩ := ih acc' fun j hj i hi => hlen ▸ hidx j (by simp [hj]) i hi
    refine ⟨m :: ms, acc'', ?_, by simp [hms], by rw [hlen', hlen]⟩
    simp [innerDecodeAll, h, h', bind, Except.bind, pure, Except.pure]

/-- An outer decode that succeeds gives the information symbols and the symbol errors (R272, R279, R280, R282). -/
theorem outerDecode_ok {w r n : Nat} {f : List Hexbit → Nat} {hs m c : List Hexbit} (h : rsDecode r hs = .ok m c n) :
    outerDecode w r f hs = (BitVec.ofNat w (int (symbolBits m)), .ok, n) := by simp [outerDecode, h]

/-- An outer decode that fails gives zero, FAIL, and the field's own count (R275). -/
theorem outerDecode_fail {w r : Nat} {f : List Hexbit → Nat} {hs : List Hexbit} (h : rsDecode r hs = .fail) :
    outerDecode w r f hs = (0, .fail, f hs) := by simp [outerDecode, h]

@[simp] theorem noErrs_eq (hs : List Hexbit) : noErrs hs = 0 := rfl

end Sys2Proof.Machine
end

