-- ==== Sys2Proof/Laws/Framer.lean ====
section
/-!
SUPPORT. What each step of the framer can do, said once (44 R334).
-/

namespace Sys2Proof.Machine

/-- A FEED in SEARCHING shifts the window, and leaves SEARCHING only on a correlation (R321 to R324). -/
theorem searchStep_cases (d : Dibit) (s : State) :
    (correlates (shiftWindow s.window d) = true ∧
      searchStep d s = ({ s with window := shiftWindow s.window d, fbuf := windowDibits (shiftWindow s.window d),
                                 st := .identifying }, .sync)) ∨
    (correlates (shiftWindow s.window d) = false ∧
      searchStep d s = ({ s with window := shiftWindow s.window d }, .none)) := by
  cases h : correlates (shiftWindow s.window d)
  · exact .inr ⟨rfl, by simp [searchStep, h]⟩
  · exact .inl ⟨rfl, by simp [searchStep, h]⟩

@[simp] theorem windowDibits_length (w : BitVec 48) : (windowDibits w).length = 24 := by simp [windowDibits, unpack]

/-- The NID of a frame of at least 57 dibits can always be read (R103, R325). -/
theorem frameNid_eq_ok {f : List Dibit} (h : 57 ≤ f.length) :
    frameNid f = .ok (BitVec.ofNat 64 (int (((dataBits f).drop 48).take 64))) := by
  have hl : 112 ≤ (dataBits f).length := by rw [dataBits_length, ndata, statusPeriod]; omega
  simp only [frameNid]
  rw [extract_eq_ok (by decide) hl]
  rfl

/-- The dispatch of a valid NID either creates a unit or rejects the candidate (R327, R328). -/
theorem dispatchNid_cases (duid : BitVec 4) (nac : BitVec 12) (cw : BitVec 64) (e : Nat) (s : State) :
    (∃ v, variantOf duid = some v ∧
      dispatchNid duid nac cw e s = ({ s with unit := some (newUnit v duid nac cw e), st := .reading }, .none)) ∨
    (variantOf duid = none ∧ dispatchNid duid nac cw e s = (rejectCandidate s, .unrecognized)) := by
  unfold dispatchNid
  cases h : variantOf duid with
  | none => exact .inr ⟨rfl, rfl⟩
  | some v => exact .inl ⟨v, rfl, rfl⟩

/-- The NID step, once the NID has been read: it dispatches, or rejects the candidate (R326 to R328). -/
theorem nidStep_eq {s : State} {nid : BitVec 64} (h : frameNid s.fbuf = .ok nid) :
    nidStep s = .ok (match nidValidate nid with
      | .ok i c n => dispatchNid (i.extractLsb' 0 4) (i.extractLsb' 4 12) c n s
      | .fail => (rejectCandidate s, .nidFail)) := by
  simp only [nidStep, h, bind, Except.bind]
  generalize nidValidate nid = x
  cases x <;> simp [pure, Except.pure]

/-- The extend of a unit that is not a PDU appends the dibit and changes nothing else (R263). -/
theorem extend_fixed {d : Dibit} {f : List Dibit} {u : DataUnit} (hl : u.life = .accumulating)
    (hv : u.variant ≠ .pdu) : extend d f u = .ok (f ++ [d], u) := by
  simp [extend, hl, hv]

/-- A unit that does not accumulate is not extended (R263). -/
theorem extend_not_accumulating {d : Dibit} {f : List Dibit} {u : DataUnit} (hl : u.life ≠ .accumulating) :
    extend d f u = .error .protocolExtendComplete := by simp [extend, hl]

/-- The extend of a PDU appends the dibit and runs `pduStep` on the longer frame buffer (R263). -/
theorem extend_pdu {d : Dibit} {f : List Dibit} {u : DataUnit} (hl : u.life = .accumulating) (hv : u.variant = .pdu) :
    extend d f u = (pduStep (f ++ [d]) u).map fun u' => (f ++ [d], u') := by simp [extend, hl, hv]

/-- `pduStep` does nothing at a status position and away from the end of the next block (R286). -/
theorem pduStep_skip {f : List Dibit} {u : DataUnit}
    (h : isStatus (f.length - 1) = true ∨ ndata f.length ≠ 56 + 98 * (u.blocks.length + 1)) :
    pduStep f u = .ok u := by
  rcases h with h | h <;> simp [pduStep, h]

/-- A unit that is not complete is not decoded (R265). -/
theorem decodeUnit_incomplete {f : List Dibit} {u : DataUnit} (hl : u.life ≠ .complete) :
    decodeUnit f u = .error .protocolDecodeIncomplete := by simp [decodeUnit, hl]

/-- A FEED in READING, once the unit is extended: it completes the unit, or keeps reading (R329 to R331). -/
theorem readStep_eq {d : Dibit} {s : State} {u u' : DataUnit} {f : List Dibit} (hu : s.unit = some u)
    (he : extend d s.fbuf u = .ok (f, u')) :
    readStep d s = if isComplete f.length u' then completeUnit f u' s
      else .ok ({ s with fbuf := f, unit := some u' }, .none) := by
  simp only [readStep, hu, he]
  cases h : isComplete f.length u' <;> simp [bind, Except.bind, h, pure, Except.pure]

/-- A completion emits exactly one record and goes back to SEARCHING, or raises a fault (R331). -/
theorem completeUnit_cases (f : List Dibit) (u : DataUnit) (s : State) :
    (∃ r, completeUnit f u s = .ok (enterSearching (emit r s), .emitted)) ∨
    (∃ c, completeUnit f u s = .error c) := by
  unfold completeUnit
  cases h : decodeUnit f { u with life := .complete } with
  | error c => exact .inr ⟨c, rfl⟩
  | ok r => exact .inl ⟨r.1, rfl⟩

end Sys2Proof.Machine
end

