-- ==== Sys2Proof/Laws/PerInstr.lean ====
section
/-!
SUPPORT. Facts stated of every instruction, one lemma per constructor.
-/

namespace Sys2Proof

@[simp] theorem valueOctets_length (n : Nat) (v : BitVec (8 * n)) : (valueOctets n v).length = n := by
  simp [valueOctets]

end Sys2Proof

namespace Sys2Proof.Laws.EncodingLength

set_option Elab.async false

/-- An instruction is encoded in at least one octet and at most the longest command word (R131, R132). -/
def Statement (i : Instr) : Prop := 1 ≤ (encode i).length ∧ (encode i).length ≤ longestCommand

theorem feed (v : BitVec 8) : Statement (.feed v) := by simp [Statement, encode, longestCommand]
theorem reset : Statement .reset := by simp [Statement, encode, longestCommand]
theorem rdstat : Statement .rdstat := by simp [Statement, encode, longestCommand]
theorem syncchk (v : BitVec 48) : Statement (.syncchk v) := by simp [Statement, encode, longestCommand]
theorem nidchk (v : BitVec 64) : Statement (.nidchk v) := by simp [Statement, encode, longestCommand]
theorem g23e (v : BitVec 16) : Statement (.g23e v) := by simp [Statement, encode, longestCommand]
theorem g23d (v : BitVec 24) : Statement (.g23d v) := by simp [Statement, encode, longestCommand]
theorem g24e (v : BitVec 16) : Statement (.g24e v) := by simp [Statement, encode, longestCommand]
theorem g24d (v : BitVec 24) : Statement (.g24d v) := by simp [Statement, encode, longestCommand]
theorem g18e (v : BitVec 8) : Statement (.g18e v) := by simp [Statement, encode, longestCommand]
theorem g18d (v : BitVec 24) : Statement (.g18d v) := by simp [Statement, encode, longestCommand]
theorem b63e (v : BitVec 16) : Statement (.b63e v) := by simp [Statement, encode, longestCommand]
theorem b63d (v : BitVec 64) : Statement (.b63d v) := by simp [Statement, encode, longestCommand]
theorem b64e (v : BitVec 16) : Statement (.b64e v) := by simp [Statement, encode, longestCommand]
theorem b64d (v : BitVec 64) : Statement (.b64d v) := by simp [Statement, encode, longestCommand]
theorem h15e (v : BitVec 16) : Statement (.h15e v) := by simp [Statement, encode, longestCommand]
theorem h15d (v : BitVec 16) : Statement (.h15d v) := by simp [Statement, encode, longestCommand]
theorem h10e (v : BitVec 8) : Statement (.h10e v) := by simp [Statement, encode, longestCommand]
theorem h10d (v : BitVec 16) : Statement (.h10d v) := by simp [Statement, encode, longestCommand]
theorem c16e (v : BitVec 8) : Statement (.c16e v) := by simp [Statement, encode, longestCommand]
theorem c16d (v : BitVec 16) : Statement (.c16d v) := by simp [Statement, encode, longestCommand]
theorem rs2412e (v : BitVec 72) : Statement (.rs2412e v) := by simp [Statement, encode, longestCommand]
theorem rs2412d (v : BitVec 144) : Statement (.rs2412d v) := by simp [Statement, encode, longestCommand]
theorem rs2416e (v : BitVec 96) : Statement (.rs2416e v) := by simp [Statement, encode, longestCommand]
theorem rs2416d (v : BitVec 144) : Statement (.rs2416d v) := by simp [Statement, encode, longestCommand]
theorem rs3620e (v : BitVec 120) : Statement (.rs3620e v) := by simp [Statement, encode, longestCommand]
theorem rs3620d (v : BitVec 216) : Statement (.rs3620d v) := by simp [Statement, encode, longestCommand]
theorem t12e (v : BitVec 96) : Statement (.t12e v) := by simp [Statement, encode, longestCommand]
theorem t12d (v : BitVec 200) : Statement (.t12d v) := by simp [Statement, encode, longestCommand]
theorem t34e (v : BitVec 144) : Statement (.t34e v) := by simp [Statement, encode, longestCommand]
theorem t34d (v : BitVec 200) : Statement (.t34d v) := by simp [Statement, encode, longestCommand]
theorem bilv (v : BitVec 200) : Statement (.bilv v) := by simp [Statement, encode, longestCommand]
theorem bdilv (v : BitVec 200) : Statement (.bdilv v) := by simp [Statement, encode, longestCommand]
theorem illegal00 : Statement .illegal00 := by simp [Statement, encode, longestCommand]
theorem illegal06 (x : BitVec 1) : Statement (.illegal06 x) := by simp [Statement, encode, longestCommand]
theorem illegal08 (x : BitVec 3) : Statement (.illegal08 x) := by simp [Statement, encode, longestCommand]
theorem illegal16 (x : BitVec 1) : Statement (.illegal16 x) := by simp [Statement, encode, longestCommand]
theorem illegal1C (x : BitVec 2) : Statement (.illegal1C x) := by simp [Statement, encode, longestCommand]
theorem illegal26 (x : BitVec 1) : Statement (.illegal26 x) := by simp [Statement, encode, longestCommand]
theorem illegal28 (x : BitVec 3) : Statement (.illegal28 x) := by simp [Statement, encode, longestCommand]
theorem illegal36 (x : BitVec 1) : Statement (.illegal36 x) := by simp [Statement, encode, longestCommand]
theorem illegal38 (x : BitVec 3) : Statement (.illegal38 x) := by simp [Statement, encode, longestCommand]
theorem illegal46 (x : BitVec 1) : Statement (.illegal46 x) := by simp [Statement, encode, longestCommand]
theorem illegal48 (x : BitVec 3) : Statement (.illegal48 x) := by simp [Statement, encode, longestCommand]
theorem illegal50 (x : BitVec 4) : Statement (.illegal50 x) := by simp [Statement, encode, longestCommand]
theorem illegal60 (x : BitVec 5) : Statement (.illegal60 x) := by simp [Statement, encode, longestCommand]
theorem illegal80 (x : BitVec 7) : Statement (.illegal80 x) := by simp [Statement, encode, longestCommand]
theorem duid0Hdu (nac : BitVec 12) (errs : Nat) : Statement (.duid0Hdu nac errs) := by simp [Statement, encode, longestCommand]
theorem duid1Unrecognized (nac : BitVec 12) (errs : Nat) : Statement (.duid1Unrecognized nac errs) := by simp [Statement, encode, longestCommand]
theorem duid2Unrecognized (nac : BitVec 12) (errs : Nat) : Statement (.duid2Unrecognized nac errs) := by simp [Statement, encode, longestCommand]
theorem duid3Tdu (nac : BitVec 12) (errs : Nat) : Statement (.duid3Tdu nac errs) := by simp [Statement, encode, longestCommand]
theorem duid4Unrecognized (nac : BitVec 12) (errs : Nat) : Statement (.duid4Unrecognized nac errs) := by simp [Statement, encode, longestCommand]
theorem duid5Ldu1 (nac : BitVec 12) (errs : Nat) : Statement (.duid5Ldu1 nac errs) := by simp [Statement, encode, longestCommand]
theorem duid6Unrecognized (nac : BitVec 12) (errs : Nat) : Statement (.duid6Unrecognized nac errs) := by simp [Statement, encode, longestCommand]
theorem duid7Pdu (nac : BitVec 12) (errs : Nat) : Statement (.duid7Pdu nac errs) := by simp [Statement, encode, longestCommand]
theorem duid8Unrecognized (nac : BitVec 12) (errs : Nat) : Statement (.duid8Unrecognized nac errs) := by simp [Statement, encode, longestCommand]
theorem duid9Pdu (nac : BitVec 12) (errs : Nat) : Statement (.duid9Pdu nac errs) := by simp [Statement, encode, longestCommand]
theorem duidALdu2 (nac : BitVec 12) (errs : Nat) : Statement (.duidALdu2 nac errs) := by simp [Statement, encode, longestCommand]
theorem duidBUnrecognized (nac : BitVec 12) (errs : Nat) : Statement (.duidBUnrecognized nac errs) := by simp [Statement, encode, longestCommand]
theorem duidCPdu (nac : BitVec 12) (errs : Nat) : Statement (.duidCPdu nac errs) := by simp [Statement, encode, longestCommand]
theorem duidDUnrecognized (nac : BitVec 12) (errs : Nat) : Statement (.duidDUnrecognized nac errs) := by simp [Statement, encode, longestCommand]
theorem duidEUnrecognized (nac : BitVec 12) (errs : Nat) : Statement (.duidEUnrecognized nac errs) := by simp [Statement, encode, longestCommand]
theorem duidFTdulc (nac : BitVec 12) (errs : Nat) : Statement (.duidFTdulc nac errs) := by simp [Statement, encode, longestCommand]

end Sys2Proof.Laws.EncodingLength
end

