-- ==== Sys2Proof/Machine/Assembler.lean ====
section
/-!
DEFINITION. The assembler's view of the commands (30 R145): mnemonics, operands given as one number or as a list of
symbols, and the two pseudo-commands FEEDS and FEEDX. Lines are taken as parsed; how a number is written is no
part of the block.
-/

namespace Sys2Proof.Machine

/-- A parsed line of assembler (R145). -/
inductive AsmLine where
  /-- A mnemonic with at most one operand. -/
  | command (mnemonic : String) (operand : Nat)
  /-- A mnemonic with a bracketed list of symbols, symbol 0 first. -/
  | sequence (mnemonic : String) (symbols : List Nat)
  /-- The pseudo-command FEEDS. -/
  | feeds (dibits : List Nat)
  /-- The pseudo-command FEEDX v, n. -/
  | feedx (v n : Nat)
  deriving DecidableEq, Repr

/-- One row of the command table: opcode, OPLEN, operand width W, and the symbol width of a sequence operand, 0 for
the other operands (R131, R133). -/
structure CommandRow where
  mnemonic : String
  op : Octet
  oplen : Nat
  width : Nat
  symbolWidth : Nat
  deriving DecidableEq, Repr

/-- The command table (R131). -/
def commandTable : List CommandRow := [
  ⟨"FEED", 0x01, 1, 2, 0⟩,
  ⟨"RESET", 0x02, 0, 0, 0⟩,
  ⟨"RDSTAT", 0x03, 0, 0, 0⟩,
  ⟨"SYNCCHK", 0x04, 6, 48, 0⟩,
  ⟨"NIDCHK", 0x05, 8, 64, 0⟩,
  ⟨"G23E", 0x10, 2, 12, 0⟩,
  ⟨"G23D", 0x11, 3, 23, 0⟩,
  ⟨"G24E", 0x12, 2, 12, 0⟩,
  ⟨"G24D", 0x13, 3, 24, 0⟩,
  ⟨"G18E", 0x14, 1, 6, 0⟩,
  ⟨"G18D", 0x15, 3, 18, 0⟩,
  ⟨"B63E", 0x18, 2, 16, 0⟩,
  ⟨"B63D", 0x19, 8, 63, 0⟩,
  ⟨"B64E", 0x1A, 2, 16, 0⟩,
  ⟨"B64D", 0x1B, 8, 64, 0⟩,
  ⟨"H15E", 0x20, 2, 11, 0⟩,
  ⟨"H15D", 0x21, 2, 15, 0⟩,
  ⟨"H10E", 0x22, 1, 6, 0⟩,
  ⟨"H10D", 0x23, 2, 10, 0⟩,
  ⟨"C16E", 0x24, 1, 8, 0⟩,
  ⟨"C16D", 0x25, 2, 16, 0⟩,
  ⟨"RS2412E", 0x30, 9, 72, 6⟩,
  ⟨"RS2412D", 0x31, 18, 144, 6⟩,
  ⟨"RS2416E", 0x32, 12, 96, 6⟩,
  ⟨"RS2416D", 0x33, 18, 144, 6⟩,
  ⟨"RS3620E", 0x34, 15, 120, 6⟩,
  ⟨"RS3620D", 0x35, 27, 216, 6⟩,
  ⟨"T12E", 0x40, 12, 96, 2⟩,
  ⟨"T12D", 0x41, 25, 196, 4⟩,
  ⟨"T34E", 0x42, 18, 144, 3⟩,
  ⟨"T34D", 0x43, 25, 196, 4⟩,
  ⟨"BILV", 0x44, 25, 196, 1⟩,
  ⟨"BDILV", 0x45, 25, 196, 1⟩]

/-- The row of a mnemonic. -/
def commandRow (mnemonic : String) : Option CommandRow := commandTable.find? fun r => r.mnemonic = mnemonic

/-- The command word of a row with an operand that fits its width (R130). -/
def commandWord (r : CommandRow) (operand : Nat) : Option (List Octet) :=
  if operand < 2 ^ r.width then some (r.op :: valueOctets r.oplen (BitVec.ofNat (8 * r.oplen) operand)) else none

/-- A list of symbols of `w` bits as one number, symbol 0 in the most significant bits (R133). -/
def packNumbers (w : Nat) (l : List Nat) : Nat := l.foldl (fun acc x => 2 ^ w * acc + x) 0

/-- One FEED per dibit (R145). -/
def feedWords (dibits : List Nat) : Option (List Octet) :=
  if dibits.all fun d => decide (d < 4) then some (dibits.flatMap fun d => [0x01, BitVec.ofNat 8 d]) else none

/-- The dibits of FEEDX: those of the 2n-bit value v, most significant first (R145). DESIGN CHOICE: R145 speaks only
of a v that fits 2n bits, and of a wider one the low 2n bits are taken (notes/assumptions/22.md). -/
def feedxDibits (v n : Nat) : List Nat := (List.range n).map fun i => (v >>> (2 * (n - 1 - i))) % 4

/-- The octets of a line; none for a line that is not legal assembler (R145). -/
def assembleLine : AsmLine → Option (List Octet)
  | .command m operand => (commandRow m).bind fun r => commandWord r operand
  | .sequence m l => (commandRow m).bind fun r =>
      if r.symbolWidth ≠ 0 ∧ r.symbolWidth * l.length = r.width ∧ l.all (fun x => decide (x < 2 ^ r.symbolWidth)) then
        commandWord r (packNumbers r.symbolWidth l)
      else none
  | .feeds l => feedWords l
  | .feedx v n => feedWords (feedxDibits v n)

/-- The octets of a program (R145). -/
def assemble : List AsmLine → Option (List Octet)
  | [] => some []
  | l :: ls => (assembleLine l).bind fun a => (assemble ls).map fun b => a ++ b

end Sys2Proof.Machine
end

