-- ==== Sys2Proof/Tests/Slice0.lean ====
section
/-!
SUPPORT. The model's own tests: the well-formedness checks, one word of every row of the opcode table, the vectors of
95_test_vectors.md on single commands, and for every statement with hypotheses a witness that meets them together.
-/

namespace Sys2Proof.Tests

open Sys2Proof.Machine Sys2Proof.Safety

set_option Elab.async false

/-- The state after one instruction. -/
def after (i : Instr) (s : State) : Option State :=
  match exec i s with
  | .next t => some t
  | .fault _ => none
  | .refused _ => none

/-- The response to one instruction. -/
def answerTo (i : Instr) (s : State) : Option Response := (after i s).bind (·.resp)

/-- The `n` dibits of a number in base 4, the first the most significant. -/
def dibits (n v : Nat) : List Dibit := (List.range n).map fun i => BitVec.ofNat 2 (v >>> (2 * (n - 1 - i)))

/-! ## Well-formedness: each check refuses an ill-formed term (30 R130, R131; 10 R35) -/

theorem test_wf_refuses_feed : (Instr.feed 0x4).wf = false := by decide
theorem test_wf_refuses_g23e : (Instr.g23e 0x1000).wf = false := by decide
theorem test_wf_refuses_g23d : (Instr.g23d 0x800000).wf = false := by decide
theorem test_wf_refuses_g24e : (Instr.g24e 0x1000).wf = false := by decide
theorem test_wf_refuses_g18e : (Instr.g18e 0x40).wf = false := by decide
theorem test_wf_refuses_g18d : (Instr.g18d 0x40000).wf = false := by decide
theorem test_wf_refuses_b63d : (Instr.b63d 0x8000000000000000).wf = false := by decide
theorem test_wf_refuses_h15e : (Instr.h15e 0x800).wf = false := by decide
theorem test_wf_refuses_h15d : (Instr.h15d 0x8000).wf = false := by decide
theorem test_wf_refuses_h10e : (Instr.h10e 0x40).wf = false := by decide
theorem test_wf_refuses_h10d : (Instr.h10d 0x400).wf = false := by decide
theorem test_wf_refuses_t12d : (Instr.t12d 0x10000000000000000000000000000000000000000000000000).wf = false := by decide
theorem test_wf_refuses_t34d : (Instr.t34d 0x10000000000000000000000000000000000000000000000000).wf = false := by decide
theorem test_wf_refuses_bilv : (Instr.bilv 0x10000000000000000000000000000000000000000000000000).wf = false := by decide
theorem test_wf_refuses_bdilv : (Instr.bdilv 0x10000000000000000000000000000000000000000000000000).wf = false := by decide
theorem test_wf_refuses_duid0Hdu : (Instr.duid0Hdu 0x293 12).wf = false := by decide
theorem test_wf_refuses_duid1Unrecognized : (Instr.duid1Unrecognized 0x293 12).wf = false := by decide
theorem test_wf_refuses_duid2Unrecognized : (Instr.duid2Unrecognized 0x293 12).wf = false := by decide
theorem test_wf_refuses_duid3Tdu : (Instr.duid3Tdu 0x293 12).wf = false := by decide
theorem test_wf_refuses_duid4Unrecognized : (Instr.duid4Unrecognized 0x293 12).wf = false := by decide
theorem test_wf_refuses_duid5Ldu1 : (Instr.duid5Ldu1 0x293 12).wf = false := by decide
theorem test_wf_refuses_duid6Unrecognized : (Instr.duid6Unrecognized 0x293 12).wf = false := by decide
theorem test_wf_refuses_duid7Pdu : (Instr.duid7Pdu 0x293 12).wf = false := by decide
theorem test_wf_refuses_duid8Unrecognized : (Instr.duid8Unrecognized 0x293 12).wf = false := by decide
theorem test_wf_refuses_duid9Pdu : (Instr.duid9Pdu 0x293 12).wf = false := by decide
theorem test_wf_refuses_duidALdu2 : (Instr.duidALdu2 0x293 12).wf = false := by decide
theorem test_wf_refuses_duidBUnrecognized : (Instr.duidBUnrecognized 0x293 12).wf = false := by decide
theorem test_wf_refuses_duidCPdu : (Instr.duidCPdu 0x293 12).wf = false := by decide
theorem test_wf_refuses_duidDUnrecognized : (Instr.duidDUnrecognized 0x293 12).wf = false := by decide
theorem test_wf_refuses_duidEUnrecognized : (Instr.duidEUnrecognized 0x293 12).wf = false := by decide
theorem test_wf_refuses_duidFTdulc : (Instr.duidFTdulc 0x293 12).wf = false := by decide

/-! ## Decoding: a word of every command, written from 30 R130 and R131; operand octets 0x11, 0x36, 0x5B, … -/

theorem test_decode_feed : decode [0x01, 0x11, 0x7E] = .ok (.feed 0x11, [0x7E]) := by rfl
theorem test_decode_reset : decode [0x02, 0x7E] = .ok (.reset, [0x7E]) := by rfl
theorem test_decode_rdstat : decode [0x03, 0x7E] = .ok (.rdstat, [0x7E]) := by rfl
theorem test_decode_syncchk :
    decode [0x04, 0x11, 0x36, 0x5B, 0x80, 0xA5, 0xCA, 0x7E] =
      .ok (.syncchk 0x11365B80A5CA, [0x7E]) := by rfl
theorem test_decode_nidchk :
    decode [0x05, 0x11, 0x36, 0x5B, 0x80, 0xA5, 0xCA, 0xEF, 0x14, 0x7E] =
      .ok (.nidchk 0x11365B80A5CAEF14, [0x7E]) := by rfl
theorem test_decode_g23e : decode [0x10, 0x11, 0x36, 0x7E] = .ok (.g23e 0x1136, [0x7E]) := by rfl
theorem test_decode_g23d : decode [0x11, 0x11, 0x36, 0x5B, 0x7E] = .ok (.g23d 0x11365B, [0x7E]) := by rfl
theorem test_decode_g24e : decode [0x12, 0x11, 0x36, 0x7E] = .ok (.g24e 0x1136, [0x7E]) := by rfl
theorem test_decode_g24d : decode [0x13, 0x11, 0x36, 0x5B, 0x7E] = .ok (.g24d 0x11365B, [0x7E]) := by rfl
theorem test_decode_g18e : decode [0x14, 0x11, 0x7E] = .ok (.g18e 0x11, [0x7E]) := by rfl
theorem test_decode_g18d : decode [0x15, 0x11, 0x36, 0x5B, 0x7E] = .ok (.g18d 0x11365B, [0x7E]) := by rfl
theorem test_decode_b63e : decode [0x18, 0x11, 0x36, 0x7E] = .ok (.b63e 0x1136, [0x7E]) := by rfl
theorem test_decode_b63d :
    decode [0x19, 0x11, 0x36, 0x5B, 0x80, 0xA5, 0xCA, 0xEF, 0x14, 0x7E] =
      .ok (.b63d 0x11365B80A5CAEF14, [0x7E]) := by rfl
theorem test_decode_b64e : decode [0x1A, 0x11, 0x36, 0x7E] = .ok (.b64e 0x1136, [0x7E]) := by rfl
theorem test_decode_b64d :
    decode [0x1B, 0x11, 0x36, 0x5B, 0x80, 0xA5, 0xCA, 0xEF, 0x14, 0x7E] =
      .ok (.b64d 0x11365B80A5CAEF14, [0x7E]) := by rfl
theorem test_decode_h15e : decode [0x20, 0x11, 0x36, 0x7E] = .ok (.h15e 0x1136, [0x7E]) := by rfl
theorem test_decode_h15d : decode [0x21, 0x11, 0x36, 0x7E] = .ok (.h15d 0x1136, [0x7E]) := by rfl
theorem test_decode_h10e : decode [0x22, 0x11, 0x7E] = .ok (.h10e 0x11, [0x7E]) := by rfl
theorem test_decode_h10d : decode [0x23, 0x11, 0x36, 0x7E] = .ok (.h10d 0x1136, [0x7E]) := by rfl
theorem test_decode_c16e : decode [0x24, 0x11, 0x7E] = .ok (.c16e 0x11, [0x7E]) := by rfl
theorem test_decode_c16d : decode [0x25, 0x11, 0x36, 0x7E] = .ok (.c16d 0x1136, [0x7E]) := by rfl
theorem test_decode_rs2412e :
    decode [0x30, 0x11, 0x36, 0x5B, 0x80, 0xA5, 0xCA, 0xEF, 0x14, 0x39, 0x7E] =
      .ok (.rs2412e 0x11365B80A5CAEF1439, [0x7E]) := by rfl
theorem test_decode_rs2412d :
    decode [0x31, 0x11, 0x36, 0x5B, 0x80, 0xA5, 0xCA, 0xEF, 0x14, 0x39, 0x5E, 0x83, 0xA8, 0xCD, 0xF2, 0x17, 0x3C, 0x61, 0x86, 0x7E] =
      .ok (.rs2412d 0x11365B80A5CAEF14395E83A8CDF2173C6186, [0x7E]) := by rfl
theorem test_decode_rs2416e :
    decode [0x32, 0x11, 0x36, 0x5B, 0x80, 0xA5, 0xCA, 0xEF, 0x14, 0x39, 0x5E, 0x83, 0xA8, 0x7E] =
      .ok (.rs2416e 0x11365B80A5CAEF14395E83A8, [0x7E]) := by rfl
theorem test_decode_rs2416d :
    decode [0x33, 0x11, 0x36, 0x5B, 0x80, 0xA5, 0xCA, 0xEF, 0x14, 0x39, 0x5E, 0x83, 0xA8, 0xCD, 0xF2, 0x17, 0x3C, 0x61, 0x86, 0x7E] =
      .ok (.rs2416d 0x11365B80A5CAEF14395E83A8CDF2173C6186, [0x7E]) := by rfl
theorem test_decode_rs3620e :
    decode [0x34, 0x11, 0x36, 0x5B, 0x80, 0xA5, 0xCA, 0xEF, 0x14, 0x39, 0x5E, 0x83, 0xA8, 0xCD, 0xF2, 0x17, 0x7E] =
      .ok (.rs3620e 0x11365B80A5CAEF14395E83A8CDF217, [0x7E]) := by rfl
theorem test_decode_rs3620d :
    decode [0x35, 0x11, 0x36, 0x5B, 0x80, 0xA5, 0xCA, 0xEF, 0x14, 0x39, 0x5E, 0x83, 0xA8, 0xCD, 0xF2, 0x17, 0x3C, 0x61, 0x86, 0xAB, 0xD0, 0xF5, 0x1A, 0x3F, 0x64, 0x89, 0xAE, 0xD3, 0x7E] =
      .ok (.rs3620d 0x11365B80A5CAEF14395E83A8CDF2173C6186ABD0F51A3F6489AED3, [0x7E]) := by rfl
theorem test_decode_t12e :
    decode [0x40, 0x11, 0x36, 0x5B, 0x80, 0xA5, 0xCA, 0xEF, 0x14, 0x39, 0x5E, 0x83, 0xA8, 0x7E] =
      .ok (.t12e 0x11365B80A5CAEF14395E83A8, [0x7E]) := by rfl
theorem test_decode_t12d :
    decode [0x41, 0x11, 0x36, 0x5B, 0x80, 0xA5, 0xCA, 0xEF, 0x14, 0x39, 0x5E, 0x83, 0xA8, 0xCD, 0xF2, 0x17, 0x3C, 0x61, 0x86, 0xAB, 0xD0, 0xF5, 0x1A, 0x3F, 0x64, 0x89, 0x7E] =
      .ok (.t12d 0x11365B80A5CAEF14395E83A8CDF2173C6186ABD0F51A3F6489, [0x7E]) := by rfl
theorem test_decode_t34e :
    decode [0x42, 0x11, 0x36, 0x5B, 0x80, 0xA5, 0xCA, 0xEF, 0x14, 0x39, 0x5E, 0x83, 0xA8, 0xCD, 0xF2, 0x17, 0x3C, 0x61, 0x86, 0x7E] =
      .ok (.t34e 0x11365B80A5CAEF14395E83A8CDF2173C6186, [0x7E]) := by rfl
theorem test_decode_t34d :
    decode [0x43, 0x11, 0x36, 0x5B, 0x80, 0xA5, 0xCA, 0xEF, 0x14, 0x39, 0x5E, 0x83, 0xA8, 0xCD, 0xF2, 0x17, 0x3C, 0x61, 0x86, 0xAB, 0xD0, 0xF5, 0x1A, 0x3F, 0x64, 0x89, 0x7E] =
      .ok (.t34d 0x11365B80A5CAEF14395E83A8CDF2173C6186ABD0F51A3F6489, [0x7E]) := by rfl
theorem test_decode_bilv :
    decode [0x44, 0x11, 0x36, 0x5B, 0x80, 0xA5, 0xCA, 0xEF, 0x14, 0x39, 0x5E, 0x83, 0xA8, 0xCD, 0xF2, 0x17, 0x3C, 0x61, 0x86, 0xAB, 0xD0, 0xF5, 0x1A, 0x3F, 0x64, 0x89, 0x7E] =
      .ok (.bilv 0x11365B80A5CAEF14395E83A8CDF2173C6186ABD0F51A3F6489, [0x7E]) := by rfl
theorem test_decode_bdilv :
    decode [0x45, 0x11, 0x36, 0x5B, 0x80, 0xA5, 0xCA, 0xEF, 0x14, 0x39, 0x5E, 0x83, 0xA8, 0xCD, 0xF2, 0x17, 0x3C, 0x61, 0x86, 0xAB, 0xD0, 0xF5, 0x1A, 0x3F, 0x64, 0x89, 0x7E] =
      .ok (.bdilv 0x11365B80A5CAEF14395E83A8CDF2173C6186ABD0F51A3F6489, [0x7E]) := by rfl

/-! The last and the first opcode of every illegal range (30 R132) -/

theorem test_decode_illegal00 : decode [0x00, 0x01] = .ok (.illegal00, [0x01]) ∧ decode [0x00] = .ok (.illegal00, []) := by
  exact ⟨rfl, rfl⟩
theorem test_decode_illegal06 : decode [0x07, 0x01] = .ok (.illegal06 1, [0x01]) ∧ decode [0x06] = .ok (.illegal06 0, []) := by
  exact ⟨rfl, rfl⟩
theorem test_decode_illegal08 : decode [0x0F, 0x01] = .ok (.illegal08 7, [0x01]) ∧ decode [0x08] = .ok (.illegal08 0, []) := by
  exact ⟨rfl, rfl⟩
theorem test_decode_illegal16 : decode [0x17, 0x01] = .ok (.illegal16 1, [0x01]) ∧ decode [0x16] = .ok (.illegal16 0, []) := by
  exact ⟨rfl, rfl⟩
theorem test_decode_illegal1C : decode [0x1F, 0x01] = .ok (.illegal1C 3, [0x01]) ∧ decode [0x1C] = .ok (.illegal1C 0, []) := by
  exact ⟨rfl, rfl⟩
theorem test_decode_illegal26 : decode [0x27, 0x01] = .ok (.illegal26 1, [0x01]) ∧ decode [0x26] = .ok (.illegal26 0, []) := by
  exact ⟨rfl, rfl⟩
theorem test_decode_illegal28 : decode [0x2F, 0x01] = .ok (.illegal28 7, [0x01]) ∧ decode [0x28] = .ok (.illegal28 0, []) := by
  exact ⟨rfl, rfl⟩
theorem test_decode_illegal36 : decode [0x37, 0x01] = .ok (.illegal36 1, [0x01]) ∧ decode [0x36] = .ok (.illegal36 0, []) := by
  exact ⟨rfl, rfl⟩
theorem test_decode_illegal38 : decode [0x3F, 0x01] = .ok (.illegal38 7, [0x01]) ∧ decode [0x38] = .ok (.illegal38 0, []) := by
  exact ⟨rfl, rfl⟩
theorem test_decode_illegal46 : decode [0x47, 0x01] = .ok (.illegal46 1, [0x01]) ∧ decode [0x46] = .ok (.illegal46 0, []) := by
  exact ⟨rfl, rfl⟩
theorem test_decode_illegal48 : decode [0x4F, 0x01] = .ok (.illegal48 7, [0x01]) ∧ decode [0x48] = .ok (.illegal48 0, []) := by
  exact ⟨rfl, rfl⟩
theorem test_decode_illegal50 : decode [0x5F, 0x01] = .ok (.illegal50 15, [0x01]) ∧ decode [0x50] = .ok (.illegal50 0, []) := by
  exact ⟨rfl, rfl⟩
theorem test_decode_illegal60 : decode [0x7F, 0x01] = .ok (.illegal60 31, [0x01]) ∧ decode [0x60] = .ok (.illegal60 0, []) := by
  exact ⟨rfl, rfl⟩
theorem test_decode_illegal80 : decode [0xFF, 0x01] = .ok (.illegal80 127, [0x01]) ∧ decode [0x80] = .ok (.illegal80 0, []) := by
  exact ⟨rfl, rfl⟩

/-! The NID of NAC 0x293 and every DUID: V24 for the recognized ones and 0x1, and R161 and R164 by hand for the others -/

theorem test_decode_duid0Hdu : decodeNid 0x29300F3B5DF801C2 = some (.duid0Hdu 0x293 0) := by decide +kernel
theorem test_decode_duid1Unrecognized : decodeNid 0x2931941D4A427795 = some (.duid1Unrecognized 0x293 0) := by decide +kernel
theorem test_decode_duid2Unrecognized : decodeNid 0x2932A25165369B38 = some (.duid2Unrecognized 0x293 0) := by decide +kernel
theorem test_decode_duid3Tdu : decodeNid 0x29333977728CED6F = some (.duid3Tdu 0x293 0) := by decide +kernel
theorem test_decode_duid4Unrecognized : decodeNid 0x2934CEC93BDF4261 = some (.duid4Unrecognized 0x293 0) := by decide +kernel
theorem test_decode_duid5Ldu1 : decodeNid 0x293555EF2C653436 = some (.duid5Ldu1 0x293 0) := by decide +kernel
theorem test_decode_duid6Unrecognized : decodeNid 0x293663A30311D89B = some (.duid6Unrecognized 0x293 0) := by decide +kernel
theorem test_decode_duid7Pdu : decodeNid 0x2937F88514ABAECC = some (.duid7Pdu 0x293 0) := by decide +kernel
theorem test_decode_duid8Unrecognized : decodeNid 0x293817F9860CF0D0 = some (.duid8Unrecognized 0x293 0) := by decide +kernel
theorem test_decode_duid9Pdu : decodeNid 0x29398CDF91B68687 = some (.duid9Pdu 0x293 0) := by decide +kernel
theorem test_decode_duidALdu2 : decodeNid 0x293ABA93BEC26A2A = some (.duidALdu2 0x293 0) := by decide +kernel
theorem test_decode_duidBUnrecognized : decodeNid 0x293B21B5A9781C7D = some (.duidBUnrecognized 0x293 0) := by decide +kernel
theorem test_decode_duidCPdu : decodeNid 0x293CD60BE02BB373 = some (.duidCPdu 0x293 0) := by decide +kernel
theorem test_decode_duidDUnrecognized : decodeNid 0x293D4D2DF791C524 = some (.duidDUnrecognized 0x293 0) := by decide +kernel
theorem test_decode_duidEUnrecognized : decodeNid 0x293E7B61D8E52989 = some (.duidEUnrecognized 0x293 0) := by decide +kernel
theorem test_decode_duidFTdulc : decodeNid 0x293FE047CF5F5FDE = some (.duidFTdulc 0x293 0) := by decide +kernel

/-- A table word: the first octet is the low one, and the octets above are zero. -/
theorem test_table_word_g23e : decodeTableWord 8 0x10 = some (.g23e 0) := by rfl

/-- A table word of a DUID row is another row's opcode (notes/assumptions/9.md). -/
theorem test_table_word_duid3 : decodeTableWord 8 0x3 = some .rdstat := by rfl

/-- The word stored by `withFetchWord` is what the next step runs (notes/assumptions/5.md). -/
theorem test_fetch_word_runs :
    decode (State.withFetchWord State.reset 8 0x35).port = .ok (.rs3620d 0, []) := by rfl

/-- An encoded instruction decodes to itself. -/
theorem test_encode_t12d : decode (encode (.t12d 0xA222222222222222222222222222222222222222222222222)) =
    .ok (.t12d 0xA222222222222222222222222222222222222222222222222, []) := by rfl

/-- The assembler line `G23D 0x091856` (30 R145). -/
theorem test_assemble_g23d : assembleLine (.command "G23D" 0x091856) = some [0x11, 0x09, 0x18, 0x56] := by
  decide +kernel

/-! ## Vectors: one command each, from 95_test_vectors.md and the examples of the rules -/

/-- V4, R335: 3 bits flipped. -/
theorem test_syncchk_3 : answerTo (.syncchk 0x5575F5FF77F8) State.reset = some (answerOk (0x43 : BitVec 7)) := by
  decide +kernel
/-- R335: 4 bits flipped. -/
theorem test_syncchk_4 : answerTo (.syncchk 0x5575F5FF77F0) State.reset = some (answerOk (0x4 : BitVec 7)) := by
  decide +kernel
/-- V23: the 64th bit is neither checked nor counted. -/
theorem test_nidchk : answerTo (.nidchk 0x29333977728CED6E) State.reset =
    some (answerDecoded (0x2933 : BitVec 16) (0x29333977728CED6F : BitVec 64) 0) := by decide +kernel
/-- V10. -/
theorem test_g23e : answerTo (.g23e 0x123) State.reset = some (answerOk (0x91856 : BitVec 23)) := by
  decide +kernel
/-- V11. -/
theorem test_g23d : answerTo (.g23d 0x491877) State.reset =
    some (answerDecoded (0x123 : BitVec 12) (0x91856 : BitVec 23) 3) := by decide +kernel
/-- V11: 4 errors are miscorrected, never FAIL. -/
theorem test_g23d_beyond : answerTo (.g23d 0x491875) State.reset =
    some (answerDecoded (0xBA3 : BitVec 12) (0x5D1835 : BitVec 23) 3) := by decide +kernel
/-- V13. -/
theorem test_g24e : answerTo (.g24e 0x800) State.reset = some (answerOk (0x800C75 : BitVec 24)) := by
  decide +kernel
/-- V14. -/
theorem test_g24d : answerTo (.g24d 0xF230AC) State.reset =
    some (answerDecoded (0x123 : BitVec 12) (0x1230AC : BitVec 24) 3) := by decide +kernel
/-- V13: 4 errors. -/
theorem test_g24d_fails : answerTo (.g24d 0x9230AB) State.reset = some answerFail := by decide +kernel
/-- V15. -/
theorem test_g18e : answerTo (.g18e 0x15) State.reset = some (answerOk (0x1511B : BitVec 18)) := by
  decide +kernel
/-- V15. -/
theorem test_g18d : answerTo (.g18d 0x3511A) State.reset =
    some (answerDecoded (0x15 : BitVec 6) (0x1511B : BitVec 18) 2) := by decide +kernel
/-- V15. -/
theorem test_g18d_fails : answerTo (.g18d 0x3511C) State.reset = some answerFail := by decide +kernel
/-- V20. -/
theorem test_b63e : answerTo (.b63e 0x2933) State.reset = some (answerOk (0x14999CBBB94676B7 : BitVec 63)) := by
  decide +kernel
/-- R151: the codeword of V20 with its low 11 bits flipped. -/
theorem test_b63d : answerTo (.b63d 0x14999CBBB9467148) State.reset =
    some (answerDecoded (0x2933 : BitVec 16) (0x14999CBBB94676B7 : BitVec 63) 11) := by decide +kernel
/-- V20. -/
theorem test_b64e : answerTo (.b64e 0xFFFF) State.reset = some (answerOk (0xFFFFFFFFFFFFFFFF : BitVec 64)) := by
  decide +kernel
/-- V22. -/
theorem test_b64d : answerTo (.b64d 0x29333977728CED6E) State.reset =
    some (answerDecoded (0x2933 : BitVec 16) (0x29333977728CED6F : BitVec 64) 1) := by decide +kernel
/-- R172. -/
theorem test_h15e : answerTo (.h15e 0x0) State.reset = some (answerOk (0x0 : BitVec 15)) := by
  decide +kernel
/-- Every row of a Hamming parity sub-matrix is one of the values R8 admits. -/
theorem rows_admitted (p : Equiv.Perm (Fin 11)) :
    ∀ x ∈ (List.finRange 11).map fun i => hammingRowValues.getD (p i).val 0, x ∈ hammingRowValues := by
  intro x hx
  obtain ⟨i, -, rfl⟩ := List.mem_map.mp hx
  generalize p i = j
  revert j
  decide

/-- R173: the last parity position, whatever the OPEN matrix is. -/
theorem test_h15d : answerTo (.h15d 0x1) State.reset =
    some (answerDecoded (0x0 : BitVec 11) (0x0 : BitVec 15) 1) := by
  have h : ham15P.findIdx? (· = 1) = none := by
    rw [List.findIdx?_eq_none_iff]
    intro x hx
    have := rows_admitted _ x hx
    clear hx
    revert x
    decide
  have hl : ham15P.length = 11 := by simp [ham15P]
  have hs : hammingSyndrome (k := 11) ham15P 0x1 = 1 := by decide +kernel
  have hd : decH15 0x1 = .ok 0 0 1 := by
    simp only [decH15, hammingDecode, hammingColumns, List.findIdx?_append, hs, h, hl]
    rfl
  show some (decodedResponse (decH15 0x1)) = _
  rw [hd]
  rfl
/-- R174. -/
theorem test_h10e : answerTo (.h10e 0x0) State.reset = some (answerOk (0x0 : BitVec 10)) := by
  decide +kernel
/-- R175: parity position 8, whatever the OPEN matrix is. -/
theorem test_h10d : answerTo (.h10d 0x2) State.reset =
    some (answerDecoded (0x0 : BitVec 6) (0x0 : BitVec 10) 1) := by
  have h : ham10P.findIdx? (· = 2) = none := by
    rw [List.findIdx?_eq_none_iff]
    intro x hx
    have := rows_admitted _ x (List.mem_of_mem_take hx)
    clear hx
    revert x
    decide
  have hl : ham10P.length = 6 := by simp [ham10P]
  have hs : hammingSyndrome (k := 6) ham10P 0x2 = 2 := by decide +kernel
  have hd : decH10 0x2 = .ok 0 0 1 := by
    simp only [decH10, hammingDecode, hammingColumns, List.findIdx?_append, hs, h, hl]
    rfl
  show some (decodedResponse (decH10 0x2)) = _
  rw [hd]
  rfl
/-- R178. -/
theorem test_c16e : answerTo (.c16e 0x0) State.reset = some (answerOk (0x0 : BitVec 16)) := by
  decide +kernel
/-- R179: 2 errors away from zero, for either value of the OPEN generator. -/
theorem test_c16d : answerTo (.c16d 0x8001) State.reset =
    some (answerDecoded (0x0 : BitVec 8) (0x0 : BitVec 16) 2) := by
  have h : ∀ second : Bool, bdd (fun m : BitVec 8 => cyclicEncode 16 8 (if second then 0x1D7 else 0x139) m) 2
      (0x8001 : BitVec 16) = .ok 0 0 2 := by decide +kernel
  show some (decodedResponse (decC16 0x8001)) = _
  rw [show decC16 0x8001 = .ok 0 0 2 from h Config.cyc16SecondGen]
  rfl
/-- V40, R205. -/
theorem test_rs2412e : answerTo (.rs2412e 0x420C41461C824A2CC) State.reset = some (answerOk (0x420C41461C824A2CC6A1BA133AF1746807A : BitVec 144)) := by
  decide +kernel
/-- V40, R206: 6 symbol errors. -/
theorem test_rs2412d : answerTo (.rs2412d 0xF820FB1461F724A2F36A1B9E33AF17468045) State.reset =
    some (answerDecoded (0x420C41461C824A2CC : BitVec 72) (0x420C41461C824A2CC6A1BA133AF1746807A : BitVec 144) 6) := by decide +kernel
/-- V40, R206: 7 symbol errors. -/
theorem test_rs2412d_fails : answerTo (.rs2412d 0xF820FB1461F724A2F36A1B9E33AF17BA8045) State.reset = some answerFail := by decide +kernel
/-- R207. -/
theorem test_rs2416e : answerTo (.rs2416e 0x420C41461C824A2CC34E3D0) State.reset = some (answerOk (0x420C41461C824A2CC34E3D033CBE8C0CE74 : BitVec 144)) := by
  decide +kernel
/-- R208: 4 symbol errors. -/
theorem test_rs2416d : answerTo (.rs2416d 0x430851061C824A2CC34E3D033CBE8C0CE74) State.reset =
    some (answerDecoded (0x420C41461C824A2CC34E3D0 : BitVec 96) (0x420C41461C824A2CC34E3D033CBE8C0CE74 : BitVec 144) 4) := by decide +kernel
/-- R208: 5 symbol errors. -/
theorem test_rs2416d_fails : answerTo (.rs2416d 0x430851071C824A2CC34E3D033CBE8C0CE74) State.reset = some answerFail := by decide +kernel
/-- V43, R209. -/
theorem test_rs3620e : answerTo (.rs3620e 0x908000000001) State.reset = some (answerOk (0x908000000001CCB591C115E715573AD8FE46 : BitVec 216)) := by
  decide +kernel
/-- V43: 8 symbol errors. -/
theorem test_rs3620d : answerTo (.rs3620d 0x540540540540540540C48540000001CCB591C115E715573AD8FE46) State.reset =
    some (answerDecoded (0x908000000001 : BitVec 120) (0x908000000001CCB591C115E715573AD8FE46 : BitVec 216) 8) := by decide +kernel
/-- R235. -/
theorem test_t12e : answerTo (.t12e 0x6C6C6C6C6C6C6C6C6C6C6C6C) State.reset = some (answerOk (0xCD45CD45CD45CD45CD45CD45CD45CD45CD45CD45CD45CD452 : BitVec 196)) := by
  decide +kernel
/-- R236: bit 3 of codeword 0 flipped. -/
theorem test_t12d : answerTo (.t12d 0xA222222222222222222222222222222222222222222222222) State.reset =
    some (answerDecoded (0x0 : BitVec 96) (0x2222222222222222222222222222222222222222222222222 : BitVec 196) 1) := by decide +kernel
/-- R236: bit 0 of codeword 0 flipped is a tie. -/
theorem test_t12d_tie : answerTo (.t12d 0x3222222222222222222222222222222222222222222222222) State.reset = some answerFail := by decide +kernel
/-- R237. -/
theorem test_t34e : answerTo (.t34e 0x53977053977053977053977053977053977) State.reset = some (answerOk (0x2D7935F1BD7935F1BD7935F1BD7935F1BD7935F1BD7935F1B : BitVec 196)) := by
  decide +kernel
/-- R238. -/
theorem test_t34d : answerTo (.t34d 0x2D7935F1BD7935F1BD7935F1BD7935F1BD7935F1BD7935F1B) State.reset =
    some (answerDecoded (0x53977053977053977053977053977053977 : BitVec 144) (0x2D7935F1BD7935F1BD7935F1BD7935F1BD7935F1BD7935F1B : BitVec 196) 0) := by decide +kernel
/-- R238: bit 2 of codeword 5 flipped. -/
theorem test_t34d_tie : answerTo (.t34d 0x2D7931F1BD7935F1BD7935F1BD7935F1BD7935F1BD7935F1B) State.reset = some answerFail := by decide +kernel
/-- V50. -/
theorem test_bilv : answerTo (.bilv 0x123456789ABCDEF0123456789ABCDEF0123456789ABCDEF0) State.reset = some (answerOk (0x48C048C048C0159D159D159D26AE26AE26AE37BF37BF37BF : BitVec 196)) := by
  decide +kernel
/-- V50. -/
theorem test_bdilv : answerTo (.bdilv 0x48C048C048C0159D159D159D26AE26AE26AE37BF37BF37BF) State.reset = some (answerOk (0x123456789ABCDEF0123456789ABCDEF0123456789ABCDEF0 : BitVec 196)) := by
  decide +kernel
/-- V16: an operand of 2^23 for G23D. -/
theorem test_g23d_overwide : after (.g23d 0x800000) State.reset = some (faultEntered 2 State.reset) := by
  decide +kernel

theorem test_illegal00 : after .illegal00 State.reset = some (faultEntered 1 State.reset) := by decide +kernel
theorem test_illegal06 : after (.illegal06 1) State.reset = some (faultEntered 1 State.reset) := by decide +kernel
theorem test_illegal08 : after (.illegal08 7) State.reset = some (faultEntered 1 State.reset) := by decide +kernel
theorem test_illegal16 : after (.illegal16 1) State.reset = some (faultEntered 1 State.reset) := by decide +kernel
theorem test_illegal1C : after (.illegal1C 3) State.reset = some (faultEntered 1 State.reset) := by decide +kernel
theorem test_illegal26 : after (.illegal26 1) State.reset = some (faultEntered 1 State.reset) := by decide +kernel
theorem test_illegal28 : after (.illegal28 7) State.reset = some (faultEntered 1 State.reset) := by decide +kernel
theorem test_illegal36 : after (.illegal36 1) State.reset = some (faultEntered 1 State.reset) := by decide +kernel
theorem test_illegal38 : after (.illegal38 7) State.reset = some (faultEntered 1 State.reset) := by decide +kernel
theorem test_illegal46 : after (.illegal46 1) State.reset = some (faultEntered 1 State.reset) := by decide +kernel
theorem test_illegal48 : after (.illegal48 7) State.reset = some (faultEntered 1 State.reset) := by decide +kernel
theorem test_illegal50 : after (.illegal50 15) State.reset = some (faultEntered 1 State.reset) := by decide +kernel
theorem test_illegal60 : after (.illegal60 31) State.reset = some (faultEntered 1 State.reset) := by decide +kernel
theorem test_illegal80 : after (.illegal80 127) State.reset = some (faultEntered 1 State.reset) := by decide +kernel

/-! ## The framer -/

/-- IDENTIFYING with the first 56 dibits of a frame, given as a number in base 4. -/
def identifying (v : Nat) : State := { State.reset with st := .identifying, fbuf := dibits 56 v, unrec := 5 }

/-- The NID step: IDENTIFYING with 57 dibits. -/
def atNidStep : State := { State.reset with st := .identifying, fbuf := dibits 57 0, unrec := 5 }

/-- READING with a unit and the first `n` dibits of its frame. -/
def reading (u : DataUnit) (n v : Nat) : State :=
  { State.reset with st := .reading, fbuf := dibits n v, unit := some u }

/-- Right after the SYNC of a frame, with `unrec` 5 (R382's example). -/
theorem test_rdstat : answerTo .rdstat { State.reset with st := .identifying, fbuf := dibits 24 0, unrec := 5 } =
    some (answerOk (0x4000001800000005 : BitVec 64)) := by decide +kernel

/-- RESET in FAULTED keeps the records and clears the cause (R380). -/
theorem test_reset : after .reset { State.reset with st := .faulted, faultCause := 1, unrec := 5 } =
    some { State.reset with resp := some (answerOk (0 : BitVec 1)) } := by decide +kernel

/-- V1, R320's example: the last dibit of FS gives SYNC, and the frame buffer holds FS. -/
theorem test_feed_sync : after (.feed 3) { State.reset with window := 0x155D7D7FDDFF } =
    some { State.reset with
      window := 0x5575F5FF77FF, st := .identifying, fbuf := dibits 24 0x5575F5FF77FF,
      resp := some (answerFeed .sync 1) } := by decide +kernel

/-- V60: position 56 of the TDU frame creates the unit. -/
theorem test_feed_nid : after (.feed 3) (identifying 0x5575F5FF77FF29333A5DDCA33B5B) =
    some { identifying 0x5575F5FF77FF29333A5DDCA33B5B with
      fbuf := dibits 57 0x155D7D7FDDFFCA4CCE977728CED6F, st := .reading,
      unit := some { variant := .tdu, duid := 3, nac := 0x293, nidCw := 0x29333977728CED6F, nidErrs := 0,
                     life := .accumulating, blocks := [], total := none },
      resp := some (answerFeed .none 2) } := by decide +kernel

/-- V60: position 71 emits the TDU. -/
theorem test_duid3_frame : (after (.feed 2)
      (reading (createdUnit .tdu 3 0x293 0) 71 0x155D7D7FDDFFCA4CCE977728CED6F0000000)).map (fun t =>
      (t.st, t.unit, t.out.map fun r => (r.nac, r.size, r.dbits.length))) =
    some (.searching, none, [(0x293, 72, 140)]) := by decide +kernel

/-- V66 (d): Golay codeword 12 of the HDU is corrected and written back, codeword 20 fails, hands its received bits on
and stays as received (R269). -/
theorem test_hdu_inner :
    innerDecode dec18 (span 0 18) (startInner (bitsOf (0x05C5B : BitVec 18))) =
      .ok (0x24, { dbits := bitsOf (0x24C5A : BitVec 18), errs := 3, fails := 0 }) ∧
    innerDecode dec18 (span 0 18) (startInner (bitsOf (0x0F47F : BitVec 18))) =
      .ok (0x0F, { dbits := bitsOf (0x0F47F : BitVec 18), errs := 0, fails := 1 }) := by decide +kernel

/-- V66 (e): position 215 emits the TDULC of V62 with 4 bit errors in Golay codeword 1. -/
theorem test_duidF_frame : (after (.feed 2)
      (reading (createdUnit .tdulc 0xF 0x293 0) 215
        0x155D7D7FDDFFCA4FF8847CF5F5FDE000000FA402F40000000000008000000018EB8D532D98C50484DE572C556CAC748EA25BD8500000)).map
      (fun t => t.out.map (·.fields)) =
    some [.tdulc { lc := 0x000090000000000001, lcStatus := .ok, lcRsErrs := 1, innerErrs := 0, innerFail := 1 }] := by
  decide +kernel

/-- V63 (a): position 157 emits the PDU of one block. -/
theorem test_duidC_frame : (after (.feed 2)
      (reading (createdUnit .pdu 0xC 0x293 0) 157
        0x155D7D7FDDFFCA4F35A0BE02BB3732E2222D888888B08888A48888A02222222222202222B088888)).map
      (fun t => t.out.map fun r => (r.size, r.payload)) =
    some [(158, [0x15, 0, 0, 0, 0, 1, 0x80, 0, 0, 0, 0, 0])] := by decide +kernel

theorem test_duid0Hdu : after (.duid0Hdu 0x293 2) atNidStep = some { atNidStep with
    unit := some (createdUnit .hdu 0x0 0x293 2), st := .reading, resp := some (answerFeed .none 2) } := by
  decide +kernel
theorem test_duid1Unrecognized : after (.duid1Unrecognized 0x293 2) atNidStep =
    some { State.reset with unrec := 6, resp := some (answerFeed .unrecognized 0) } := by decide +kernel
theorem test_duid2Unrecognized : after (.duid2Unrecognized 0x293 2) atNidStep =
    some { State.reset with unrec := 6, resp := some (answerFeed .unrecognized 0) } := by decide +kernel
theorem test_duid3Tdu : after (.duid3Tdu 0x293 2) atNidStep = some { atNidStep with
    unit := some (createdUnit .tdu 0x3 0x293 2), st := .reading, resp := some (answerFeed .none 2) } := by
  decide +kernel
theorem test_duid4Unrecognized : after (.duid4Unrecognized 0x293 2) atNidStep =
    some { State.reset with unrec := 6, resp := some (answerFeed .unrecognized 0) } := by decide +kernel
theorem test_duid5Ldu1 : after (.duid5Ldu1 0x293 2) atNidStep = some { atNidStep with
    unit := some (createdUnit .ldu1 0x5 0x293 2), st := .reading, resp := some (answerFeed .none 2) } := by
  decide +kernel
theorem test_duid6Unrecognized : after (.duid6Unrecognized 0x293 2) atNidStep =
    some { State.reset with unrec := 6, resp := some (answerFeed .unrecognized 0) } := by decide +kernel
theorem test_duid7Pdu : after (.duid7Pdu 0x293 2) atNidStep = some { atNidStep with
    unit := some (createdUnit .pdu 0x7 0x293 2), st := .reading, resp := some (answerFeed .none 2) } := by
  decide +kernel
theorem test_duid8Unrecognized : after (.duid8Unrecognized 0x293 2) atNidStep =
    some { State.reset with unrec := 6, resp := some (answerFeed .unrecognized 0) } := by decide +kernel
theorem test_duid9Pdu : after (.duid9Pdu 0x293 2) atNidStep = some { atNidStep with
    unit := some (createdUnit .pdu 0x9 0x293 2), st := .reading, resp := some (answerFeed .none 2) } := by
  decide +kernel
theorem test_duidALdu2 : after (.duidALdu2 0x293 2) atNidStep = some { atNidStep with
    unit := some (createdUnit .ldu2 0xA 0x293 2), st := .reading, resp := some (answerFeed .none 2) } := by
  decide +kernel
theorem test_duidBUnrecognized : after (.duidBUnrecognized 0x293 2) atNidStep =
    some { State.reset with unrec := 6, resp := some (answerFeed .unrecognized 0) } := by decide +kernel
theorem test_duidCPdu : after (.duidCPdu 0x293 2) atNidStep = some { atNidStep with
    unit := some (createdUnit .pdu 0xC 0x293 2), st := .reading, resp := some (answerFeed .none 2) } := by
  decide +kernel
theorem test_duidDUnrecognized : after (.duidDUnrecognized 0x293 2) atNidStep =
    some { State.reset with unrec := 6, resp := some (answerFeed .unrecognized 0) } := by decide +kernel
theorem test_duidEUnrecognized : after (.duidEUnrecognized 0x293 2) atNidStep =
    some { State.reset with unrec := 6, resp := some (answerFeed .unrecognized 0) } := by decide +kernel
theorem test_duidFTdulc : after (.duidFTdulc 0x293 2) atNidStep = some { atNidStep with
    unit := some (createdUnit .tdulc 0xF 0x293 2), st := .reading, resp := some (answerFeed .none 2) } := by
  decide +kernel


/-! ## Witnesses: the hypotheses of the statements, met together -/

theorem ready_reset : Ready State.reset := by intro h; cases h

theorem inv_reset : Inv State.reset := And.intro rfl (And.intro rfl rfl)

theorem witness_DecodeUndoesEncode : Instr.isDuidRow (.rs3620d 5) = false := by rfl

theorem witness_EncodeUndoesDecode : decode [0x11, 0x09, 0x18, 0x56, 0x07] = .ok (.g23d 0x091856, [0x07]) := by rfl

theorem witness_NidSelectsRowSent : ones ((0xFFF : BitVec 64).extractLsb' 1 63) ≤ 11 ∧
    ones ((0xFFF : BitVec 64).extractLsb' 1 63) = 11 := by decide

theorem witness_StepRunsDecodedCommand :
    decode { State.reset with port := [0x01, 0x03, 0x02] }.port = .ok (.feed 3, [0x02]) ∧
    decode { State.reset with port := [0x01] }.port = .error .operandIncomplete := by
  exact ⟨rfl, rfl⟩

/-- READING a TDU at its first and at its last dibit. -/
def tduAt (n : Nat) : State := reading (createdUnit .tdu 3 0x293 0) n 0

theorem inv_tduAt (n : Nat) (h : 57 ≤ n ∧ n < 72) : Inv (tduAt n) := by
  have hp : (tduAt n).pos = n := by simp [tduAt, reading, State.pos, dibits]
  refine And.intro rfl (Exists.intro _ (And.intro rfl ?_))
  rw [hp]
  exact And.intro rfl (And.intro rfl (And.intro (by decide) (And.intro h.1 (And.intro h.2 (And.intro rfl rfl)))))

theorem witness_StepKeepsInvariant : ∃ t, Inv { tduAt 57 with port := [0x03] } ∧
    step { tduAt 57 with port := [0x03] } = .next t := by
  refine ⟨_, inv_tduAt 57 (by decide), rfl⟩

/-- An IDENTIFYING and a FAULTED state that meet the invariant. -/
theorem inv_other_shapes : Inv (identifying 0) ∧ Inv { tduAt 71 with st := .faulted, faultCause := 2 } :=
  And.intro (And.intro rfl (And.intro rfl (by decide +kernel)))
    (And.intro (Or.inr rfl) (Or.inr (Or.inr (inv_tduAt 71 (by decide)).2)))

theorem witness_FaultedRefusesAllButResetAndStatus :
    { State.reset with st := .faulted, faultCause := 1 }.st = .faulted ∧ Instr.isDuidRow (.feed 9) = false ∧
    Instr.feed 9 ≠ .reset ∧ Instr.feed 9 ≠ .rdstat := by decide

theorem witness_OverwideOperandFaults :
    Instr.wf (.bilv 0x10000000000000000000000000000000000000000000000000) = false ∧
    Instr.isDuidRow (.bilv 0x10000000000000000000000000000000000000000000000000) = false ∧ Ready State.reset := by
  exact ⟨by decide, rfl, ready_reset⟩

theorem witness_UnlistedOpcodeFaults :
    (0x00 : Octet) ∉ opcodeTable.map Prod.fst ∧ (0x46 : Octet) ∉ opcodeTable.map Prod.fst ∧
    { State.reset with port := [0x46, 0x01] }.port = 0x46 :: [0x01] ∧
    Ready { State.reset with port := [0x46, 0x01] } := by
  exact ⟨by decide, by decide, rfl, ready_reset⟩

theorem witness_FaultEntryIsPrecise : ∃ t, exec (.feed 4) (tduAt 57) = .next t ∧ (tduAt 57).st ≠ .faulted ∧
    t.st = .faulted := by
  exact ⟨_, rfl, by decide, by decide +kernel⟩

theorem witness_OnlyResetLeavesFaulted :
    (∃ t, exec .reset { tduAt 57 with st := .faulted } = .next t ∧ t.st ≠ .faulted) ∧
    (∃ t, exec (.feed 4) { tduAt 57 with st := .faulted } = .next t ∧ Instr.feed 4 ≠ .reset) := by
  exact ⟨⟨_, rfl, by decide +kernel⟩, ⟨_, rfl, by decide⟩⟩

/-- The widest operands of the commands whose statements ask for a fit (and Ready, for all of them). -/
theorem witness_operands_fit :
    (0xFFF : BitVec 16).toNat < 2 ^ 12 ∧ (0x3F : BitVec 8).toNat < 2 ^ 6 ∧ (0x7FF : BitVec 16).toNat < 2 ^ 11 ∧
    (0x7FFFFF : BitVec 24).toNat < 2 ^ 23 ∧ (0x3FFFF : BitVec 24).toNat < 2 ^ 18 ∧
    (0x7FFFFFFFFFFFFFFF : BitVec 64).toNat < 2 ^ 63 ∧ (0x7FFF : BitVec 16).toNat < 2 ^ 15 ∧
    (0x3FF : BitVec 16).toNat < 2 ^ 10 ∧
    (0xFFFFFFFFFFFFFFFFFFFFFFFFFFFFFFFFFFFFFFFFFFFFFFFFF : BitVec 200).toNat < 2 ^ 196 ∧ Ready State.reset := by
  exact ⟨by decide, by decide, by decide, by decide, by decide, by decide, by decide, by decide, by decide, ready_reset⟩

theorem witness_TrellisRoundTrip :
    (List.replicate 48 (3 : Dibit)).length = 48 ∧ (List.replicate 48 (7 : Tribit)).length = 48 := by decide

theorem witness_FieldIsPolynomialsModulo : (0x3F : Hexbit) ≠ 0 := by decide

theorem witness_GatherUndoesScatter :
    3 < 2 ^ [3, 0].length ∧ (∀ i ∈ [3, 0], i < [true, false, true, false].length) ∧ [3, 0].Nodup ∧
    1 < 2 ^ [4].length ∧ (∃ i ∈ [4], [true, false, true, false].length ≤ i) := by decide

theorem witness_PureCommandsLeaveFramerAlone : Instr.wf (.bilv 0) = true ∧ Instr.isDuidRow (.bilv 0) = false ∧
    (encode (.bilv 0)).head? = some 0x44 ∧ (0x44 : Octet) ∈ opcodeTable.map Prod.fst ∧ (0x44 : Octet) ≠ 0x01 ∧
    (0x44 : Octet) ≠ 0x02 := by decide +kernel

theorem witness_FeedCompletes : (3 : BitVec 8).toNat < 4 ∧ Inv (tduAt 71) ∧ Ready (tduAt 71) := by
  exact ⟨by decide, inv_tduAt 71 (by decide), by intro h; cases h⟩

theorem witness_FeedSearches : (3 : BitVec 8).toNat < 4 ∧ State.reset.st = .searching := by decide

theorem witness_SyncToleratesThreeErrors : ∃ es s', State.reset.st = .searching ∧
    (dibits 23 0x155D7D7FDDFF).length = 23 ∧ feedEvents (dibits 23 0x155D7D7FDDFF) State.reset = some (es, s') ∧
    s'.st = .searching := by
  refine ⟨List.replicate 23 .none, { State.reset with window := 0x155D7D7FDDFF, resp := some (answerFeed .none 0) },
    rfl, by decide, by decide +kernel, rfl⟩

theorem witness_FeedAccumulatesNid : (0 : BitVec 8).toNat < 4 ∧
    { State.reset with st := .identifying, fbuf := dibits 55 0 }.st = .identifying ∧
    { State.reset with st := .identifying, fbuf := dibits 55 0 }.fbuf.length ≠ 56 := by decide +kernel

/-- V60: the NID of the TDU frame, and its FEED of position 56. -/
theorem witness_FeedResolvesNid : (3 : BitVec 8).toNat < 4 ∧ (identifying 0x5575F5FF77FF29333A5DDCA33B5B).st = .identifying ∧
    (identifying 0x5575F5FF77FF29333A5DDCA33B5B).fbuf.length = 56 ∧
    wordAt (dataBits (fed (identifying 0x5575F5FF77FF29333A5DDCA33B5B) 3)) 48 64 = 0x29333977728CED6F := by
  decide +kernel

theorem witness_atNidStep : atNidStep.st = .identifying ∧ atNidStep.fbuf.length = 57 := by decide +kernel

theorem witness_DuidRowsStopElsewhere : Instr.isDuidRow (.duid3Tdu 0 0) = true ∧
    ¬ (State.reset.st = .identifying ∧ State.reset.fbuf.length = 57) := by decide

theorem witness_FeedExtendsFixedUnit : (3 : BitVec 8).toNat < 4 ∧ (tduAt 57).st = .reading ∧
    (tduAt 57).unit = some (createdUnit .tdu 3 0x293 0) ∧ (createdUnit .tdu 3 0x293 0).life = .accumulating ∧
    ((createdUnit .tdu 3 0x293 0).variant, 72) ∈ sizeTable ∧ (tduAt 57).fbuf.length + 1 ≠ 72 := by
  exact ⟨by decide, rfl, rfl, rfl, by decide, by decide +kernel⟩

theorem witness_FixedUnitCompletesOnLastFeed : Inv (tduAt 57) ∧ (tduAt 57).st = .reading ∧
    (tduAt 57).unit = some (createdUnit .tdu 3 0x293 0) ∧
    ((createdUnit .tdu 3 0x293 0).variant, 72) ∈ sizeTable ∧ (tduAt 57).fbuf.length = 57 ∧
    (List.replicate 15 (0 : Dibit)).length = 72 - 57 := by
  exact ⟨inv_tduAt 57 (by decide), rfl, rfl, by decide, by decide +kernel, by decide⟩

theorem witness_TduRecord : (3 : BitVec 8).toNat < 4 ∧ (tduAt 71).st = .reading ∧
    (tduAt 71).unit = some (createdUnit .tdu 3 0x293 0) ∧ (createdUnit .tdu 3 0x293 0).variant = .tdu ∧
    (createdUnit .tdu 3 0x293 0).life = .accumulating ∧ (tduAt 71).fbuf.length = 71 := by
  exact ⟨by decide, rfl, rfl, rfl, rfl, by decide +kernel⟩

/-- READING an HDU of zeros at its last dibit. -/
theorem witness_HduRecord : ∃ (s : State) (u : DataUnit) (b : Bits), (0 : BitVec 8).toNat < 4 ∧ s.st = .reading ∧
    s.unit = some u ∧ u.variant = .hdu ∧ u.life = .accumulating ∧ s.fbuf.length = 395 ∧ b = dataBits (fed s 0) := by
  refine ⟨reading (createdUnit .hdu 0 0x293 0) 395 0, _, _, by decide, rfl, rfl, rfl, rfl, ?_, rfl⟩
  decide +kernel

theorem witness_TdulcRecord : ∃ (s : State) (u : DataUnit) (b : Bits), (0 : BitVec 8).toNat < 4 ∧ s.st = .reading ∧
    s.unit = some u ∧ u.variant = .tdulc ∧ u.life = .accumulating ∧ s.fbuf.length = 215 ∧ b = dataBits (fed s 0) := by
  refine ⟨reading (createdUnit .tdulc 0xF 0x293 0) 215 0, _, _, by decide, rfl, rfl, rfl, rfl, ?_, rfl⟩
  decide +kernel

theorem witness_Ldu1Record : ∃ (s : State) (u : DataUnit) (b : Bits), (0 : BitVec 8).toNat < 4 ∧ s.st = .reading ∧
    s.unit = some u ∧ u.variant = .ldu1 ∧ u.life = .accumulating ∧ s.fbuf.length = 863 ∧
    b = nidWritten (dataBits (fed s 0)) u.nidCw := by
  refine ⟨reading (createdUnit .ldu1 5 0x293 0) 863 0, _, _, by decide, rfl, rfl, rfl, rfl, ?_, rfl⟩
  decide +kernel

theorem witness_Ldu2Record : ∃ (s : State) (u : DataUnit) (b : Bits), (0 : BitVec 8).toNat < 4 ∧ s.st = .reading ∧
    s.unit = some u ∧ u.variant = .ldu2 ∧ u.life = .accumulating ∧ s.fbuf.length = 863 ∧
    b = nidWritten (dataBits (fed s 0)) u.nidCw := by
  refine ⟨reading (createdUnit .ldu2 0xA 0x293 0) 863 0, _, _, by decide, rfl, rfl, rfl, rfl, ?_, rfl⟩
  decide +kernel

/-- V66 (d), both clauses of an inner decode at the radius: codeword 12 is 3 bits from a codeword, codeword 20 is more
than 3 bits from every one. -/
theorem witness_InnerDecoded_golay18 : differences (0x05C5B : BitVec 18) (enc18 0x24) = 3 ∧
    ∀ m, 3 < differences (0x0F47F : BitVec 18) (enc18 m) := by decide +kernel

/-- Both clauses for the cyclic code, whatever its OPEN generator: 2 bits from a codeword, and more than 2 from every
one. -/
theorem witness_InnerDecoded_cyclic16 : ∀ second : Bool,
    (differences (0x8001 : BitVec 16) (cyclicEncode 16 8 (if second then 0x1D7 else 0x139) (0 : BitVec 8)) = 2) ∧
    ∃ r : BitVec 16, ∀ m : BitVec 8, 2 < differences r (cyclicEncode 16 8 (if second then 0x1D7 else 0x139) m) := by
  intro second
  cases second
  · exact ⟨by decide +kernel, 0xb, by decide +kernel⟩
  · exact ⟨by decide +kernel, 0x7, by decide +kernel⟩

/-- Both clauses of an outer decode: 4 symbol errors in an Encryption Sync codeword of R208, and V40's 7 symbol errors in
a Link Control, which the decoder answers with FAIL and no symbol errors. -/
theorem witness_OuterDecoded : hexbitDifferences
      (rsEncode 8 (unpack 6 16 (0x420C41461C824A2CC34E3D0 : BitVec 96)))
      (unpack 6 24 (0x430851061C824A2CC34E3D033CBE8C0CE74 : BitVec 144)) = 4 ∧
    outerDecode 72 12 noErrs (unpack 6 24 (0xF820FB1461F724A2F36A1B9E33AF17BA8045 : BitVec 144)) = (0, .fail, 0) := by
  decide +kernel

theorem witness_PduTotalFollowsBlocks :
    pduTotal 0xC [{ status := .ok, rate := .half, octets := [0x15, 0, 0, 0, 0, 1, 0xFF, 0, 0, 0, 0, 0], errs := 0,
                    cw := 0 }] = some 128 := by decide

/-- The block of 48 zero symbols is 49 times the codeword 0x2, interleaved or not. -/
theorem witness_PduBlockDecodes :
    IsTrellisCoded trellis12Rows (unpack 2 48 (0 : BitVec 96)) 0x2222222222222222222222222222222222222222222222222 ∧
    IsTrellisCoded trellis34Rows (unpack 3 48 (0 : BitVec 144)) 0x2222222222222222222222222222222222222222222222222 ∧
    IsInterleaved 0x2222222222222222222222222222222222222222222222222
      0x2222222222222222222222222222222222222222222222222 := by
  refine ⟨?_, ?_, ?_⟩
  · unfold IsTrellisCoded; decide +kernel
  · unfold IsTrellisCoded; decide +kernel
  · unfold IsInterleaved; decide +kernel

/-- R236, R286: bit 3 of codeword 0 of the zero block flipped is corrected, bit 0 flipped is a tie; and at rate 3/4 (R238)
every single bit error is a tie. -/
theorem test_decodeBlock :
    decodeBlock .half 0xA222222222222222222222222222222222222222222222222 =
      .ok { status := .ok, rate := .half, octets := List.replicate 12 0, errs := 1,
            cw := 0x2222222222222222222222222222222222222222222222222 } ∧
    decodeBlock .half 0x3222222222222222222222222222222222222222222222222 =
      .ok { status := .fail, rate := .half, octets := List.replicate 12 0, errs := 0,
            cw := 0x3222222222222222222222222222222222222222222222222 } ∧
    decodeBlock .threeQuarters 0xA222222222222222222222222222222222222222222222222 =
      .ok { status := .fail, rate := .threeQuarters, octets := List.replicate 18 0, errs := 0,
            cw := 0xA222222222222222222222222222222222222222222222222 } := by
  decide +kernel

/-- A header block of a format, otherwise of zeros. -/
def headerOf (format : Octet) : Block := { status := .ok, rate := .half, octets := [format], errs := 0, cw := 0 }

/-- R285, R288: block 0 is at rate 1/2, and later blocks of confirmed data (V63 (b)) at 3/4 unless the DUID is 0x7. -/
theorem test_nextRate :
    nextRate 0xC [] = .half ∧ nextRate 0xC [headerOf 0x16] = .threeQuarters ∧
    nextRate 0x9 [headerOf 0xF6, headerOf 0] = .threeQuarters ∧ nextRate 0x7 [headerOf 0x16] = .half ∧
    nextRate 0xC [headerOf 0x15] = .half ∧ nextRate 0x9 [headerOf 0x03] = .half ∧
    nextRate 0xC [headerOf 0x17] = .half ∧ nextRate 0xC [headerOf 0x06] = .half := by decide

/-- A PDU in flight, the first `n` dibits of its frame read. -/
def pduAt (n v : Nat) : State := reading (createdUnit .pdu 0xC 0x293 0) n v

theorem witness_FeedReadsPdu (n v : Nat) : (3 : BitVec 8).toNat < 4 ∧ (pduAt n v).st = .reading ∧
    (pduAt n v).unit = some (createdUnit .pdu 0xC 0x293 0) ∧ (createdUnit .pdu 0xC 0x293 0).variant = .pdu ∧
    (createdUnit .pdu 0xC 0x293 0).life = .accumulating ∧ 0 = (createdUnit .pdu 0xC 0x293 0).blocks.length ∧
    (createdUnit .pdu 0xC 0x293 0).total ≠ some 0 := by
  exact ⟨by decide, rfl, rfl, rfl, rfl, rfl, by decide⟩

/-- The FEEDs that append: a status position, the dibit before the end of block 0, and the dibit after. -/
theorem witness_FeedReadsPdu_appends : (pduAt 71 0).fbuf.length % 36 = 35 ∧
    ndata (fed (pduAt 156 0) 3).length ≠ 56 + 98 * (0 + 1) ∧ ndata (fed (pduAt 158 0) 3).length ≠ 56 + 98 * (0 + 1) := by
  decide +kernel

/-- V63 (a) and (b): at position 157 block 0 ends; it declares one block, or two. -/
theorem witness_FeedReadsPdu_block :
    (pduAt 157 0x155D7D7FDDFFCA4F35A0BE02BB3732E2222D888888B08888A48888A02222222222202222B088888).fbuf.length % 36 ≠ 35 ∧
    ndata (fed (pduAt 157 0x155D7D7FDDFFCA4F35A0BE02BB3732E2222D888888B08888A48888A02222222222202222B088888) 2).length = 56 + 98 * (0 + 1) ∧
    (decodeBlock .half (wordAt (dataBits (fed (pduAt 157 0x155D7D7FDDFFCA4F35A0BE02BB3732E2222D888888B08888A48888A02222222222202222B088888) 2)) 112 196)).map
      (fun blk => pduTotal 0xC [blk]) = .ok (some 1) ∧
    (decodeBlock .half (wordAt (dataBits (fed (pduAt 157 0x155D7D7FDDFFCA4F35A0BE02BB373292222DB88888B08888A48888A022222222222D2222B308888) 2)) 112 196)).map
      (fun blk => pduTotal 0xC [blk]) = .ok (some 2) := by
  exact ⟨by decide +kernel, by decide +kernel, by decide +kernel, by decide +kernel⟩

/-- V63 (b): at position 258 block 1 of a confirmed PDU ends, and at its header's word the rate is 3/4. -/
theorem witness_FeedReadsPdu_rate : (pduAt 258 0).fbuf.length % 36 ≠ 35 ∧
    ndata (fed (pduAt 258 0) 2).length = 56 + 98 * (1 + 1) ∧ (1 : Nat) ≠ 0 ∧ (0xC : BitVec 4) ≠ 0x7 ∧
    ([headerOf 0x16].head?.map fun H => (H.octets.getD 0 0).extractLsb' 0 5) = some 0x16 := by
  decide +kernel

/-- Two TDU states that differ in the status symbol at position 35, with the same dibit to come, and with different
dibits to come at status position 71. -/
theorem witness_StatusSymbolsNeverMatter :
    AgreeOffStatus (tduAt 71) { tduAt 71 with fbuf := (tduAt 71).fbuf.set 35 2 } ∧ (0 : BitVec 8).toNat < 4 ∧
    (3 : BitVec 8).toNat < 4 ∧ (tduAt 71).st ≠ .searching ∧ (tduAt 71).fbuf.length % 36 = 35 := by
  refine ⟨⟨rfl, by simp, fun p hp => ?_⟩, by decide, by decide, by decide, by decide +kernel⟩
  have hne : 35 ≠ p := fun h => hp (by rw [← h])
  simp [hne]

theorem witness_UnrecCountsRejectedCandidates : (∃ t, exec .reset atNidStep = .next t) ∧
    (∃ t, exec (.duid1Unrecognized 0 0) atNidStep = .next t ∧ Instr.duid1Unrecognized 0 0 ≠ .reset) := by
  exact ⟨⟨_, rfl⟩, ⟨_, rfl, by decide⟩⟩

theorem witness_OutputIsAppendOnlyAndNeverRead : ∃ t, exec .reset (tduAt 71) = .next t := ⟨_, rfl⟩

theorem witness_WindowWrittenOnlyInSearch : ∃ t, exec (.feed 3) State.reset = .next t := ⟨_, rfl⟩

end Sys2Proof.Tests
end

