-- ==== Sys2Proof/Proofs/Parameters.lean ====
section
/-!
PROOFS. The parameters of 00 R6 are well-formed (00 R8): what the OPEN matrices, generator and permutation keep
whatever their values are, and that a binary linear code's minimum distance is its least nonzero weight.
-/

namespace Sys2Proof.Parameters

open Sys2Proof.Machine Sys2Proof.Safety

/-! ## Products of binary polynomials and distances -/

/-- One step of `polyProduct` on a sum is the sum of the steps. -/
theorem addShift_xor {n : Nat} (x y : Bool) (a b s : BitVec n) :
    (if x ^^ y then a ^^^ b ^^^ s else a ^^^ b) = (if x then a ^^^ s else a) ^^^ (if y then b ^^^ s else b) := by
  match x, y with
  | false, false => rfl
  | false, true => exact BitVec.xor_assoc a b s
  | true, false => show a ^^^ b ^^^ s = a ^^^ s ^^^ b; ac_rfl
  | true, true =>
    calc a ^^^ b = a ^^^ (s ^^^ s) ^^^ b := by rw [BitVec.xor_self, BitVec.xor_zero]
      _ = a ^^^ s ^^^ (b ^^^ s) := by ac_rfl

/-- The fold of `polyProduct` is additive, from any accumulators. -/
theorem foldl_polyProduct_xor {k n : Nat} (p q : BitVec k) (g : BitVec n) (l : List Nat) (a b : BitVec n) :
    l.foldl (fun acc i => if (p ^^^ q).getLsbD i then acc ^^^ (g <<< i) else acc) (a ^^^ b) =
      l.foldl (fun acc i => if p.getLsbD i then acc ^^^ (g <<< i) else acc) a ^^^
      l.foldl (fun acc i => if q.getLsbD i then acc ^^^ (g <<< i) else acc) b := by
  induction l generalizing a b with
  | nil => rfl
  | cons i l ih => rw [List.foldl_cons, List.foldl_cons, List.foldl_cons, ← ih, BitVec.getLsbD_xor, addShift_xor]

theorem polyProduct_xor {k n : Nat} (p q : BitVec k) (g : BitVec n) :
    polyProduct (p ^^^ q) g = polyProduct p g ^^^ polyProduct q g := by
  have h := foldl_polyProduct_xor p q g (List.range k) 0 0
  rwa [BitVec.xor_self] at h

/-- The distance of two words is the weight of their sum. -/
theorem differences_eq_ones {n : Nat} (a b : BitVec n) : differences a b = ones (a ^^^ b) := by
  simp [differences, ones]

/-- The minimum distance of the code of the multiples of `g` is at least the least weight of a nonzero multiple. -/
theorem le_differences_of_le_ones {k n d : Nat} {g a b : BitVec n}
    (hw : ∀ q : BitVec k, q ≠ 0 → d ≤ ones (polyProduct q g))
    (ha : IsMultiple k g a) (hb : IsMultiple k g b) (hab : a ≠ b) : d ≤ differences a b := by
  obtain ⟨p, rfl⟩ := ha
  obtain ⟨q, rfl⟩ := hb
  have hpq : p ^^^ q ≠ 0 := fun h => hab (by rw [BitVec.xor_eq_zero_iff.mp h])
  rw [differences_eq_ones, ← polyProduct_xor]
  exact hw _ hpq

/-! ## CYC16_GEN -/

theorem cyc16Gen_eq : cyc16Gen = 0x139 ∨ cyc16Gen = 0x1D7 := by
  unfold cyc16Gen
  cases Config.cyc16SecondGen with
  | false => exact .inl rfl
  | true => exact .inr rfl

/-- `CYC16_GEN` has degree 8. -/
theorem cyc16Gen_degree : cyc16Gen.getLsbD 8 = true ∧ ∀ i, 8 < i → cyc16Gen.getLsbD i = false := by
  have hdeg : cyc16Gen.getLsbD 8 = true ∧ cyc16Gen.toNat < 2 ^ 9 := by
    rcases cyc16Gen_eq with h | h <;> rw [h] <;> decide
  obtain ⟨hlead, hlt⟩ := hdeg
  refine ⟨hlead, fun i hi => ?_⟩
  exact Nat.testBit_lt_two_pow (hlt.trans_le (Nat.pow_le_pow_right (by decide) hi))

/-- Every nonzero multiple of `CYC16_GEN` has weight at least 5, at either value of the generator. -/
theorem five_le_ones_polyProduct_cyc16Gen : ∀ q : BitVec 8, q ≠ 0 → 5 ≤ ones (polyProduct q cyc16Gen) := by
  rcases cyc16Gen_eq with h | h <;> rw [h] <;> decide +kernel

/-! ## The Hamming matrices -/

/-- The rows that any order of the admitted values gives are those values. -/
theorem map_hammingRowValues_perm (σ : Equiv.Perm (Fin 11)) :
    ((List.finRange 11).map fun i => hammingRowValues.getD (σ i).val 0).Perm hammingRowValues := by
  have h := σ.map_finRange_perm.map fun i => hammingRowValues.getD i.val 0
  rwa [List.map_map] at h

theorem ham15P_subperm : ham15P.Subperm hammingRowValues := (map_hammingRowValues_perm _).subperm

theorem ham10P_subperm : ham10P.Subperm hammingRowValues :=
  (List.take_sublist _ _).subperm.trans (map_hammingRowValues_perm _).subperm

/-- Rows taken from the admitted values, none twice, give nonzero and distinct columns. -/
theorem hammingColumns_nodup_nonzero {P : List Nibble} (h : P.Subperm hammingRowValues) :
    (hammingColumns P).Nodup ∧ 0 ∉ hammingColumns P := by
  have hcols : (hammingColumns P).Subperm (hammingColumns hammingRowValues) :=
    (List.subperm_append_right _).mpr h
  have hnodup : (hammingColumns hammingRowValues).Nodup := by decide
  have hzero : 0 ∉ hammingColumns hammingRowValues := by decide
  obtain ⟨l, hperm, hsub⟩ := hcols
  exact ⟨hperm.nodup_iff.mp (hnodup.sublist hsub), fun h0 => hzero (hsub.subset (hperm.mem_iff.mpr h0))⟩

theorem ham15P_columns_length : (hammingColumns ham15P).length = 15 := by simp [hammingColumns, ham15P]

theorem ham10P_columns_length : (hammingColumns ham10P).length = 10 := by simp [hammingColumns, ham10P]

/-! ## The permutations -/

theorem blockIlv_perm : blockIlv.Perm (List.range 49) := by decide

theorem voicePerm_perm : voicePerm.Perm (List.range 144) := by
  have h := Config.voicePerm.map_finRange_perm.map Fin.val
  rwa [List.map_map, List.map_coe_finRange_eq_range] at h

/-! ## BCH_GEN and GF64_POLY -/

/-- The cofactor of `BCH_GEN` in x^63+1, of degree 16. -/
theorem polyProduct_bchGen : polyProduct (0x1E237 : BitVec 17) (bchGen.setWidth 64) = 0x8000000000000001 := by
  decide +kernel

/-- α has order 63: `GF64_POLY` is primitive. -/
theorem gfAlpha_order : gfPow gfAlpha 63 = 1 ∧ ∀ k, 0 < k → k < 63 → gfPow gfAlpha k ≠ 1 := by
  have hsmall : ∀ k < 63, 0 < k → gfPow gfAlpha k ≠ 1 := by decide +kernel
  exact ⟨by decide +kernel, fun k hpos hlt => hsmall k hlt hpos⟩

/-! ## The trellis tables -/

theorem trellis12Rows_distinct : trellis12Rows.length = 4 ∧ ∀ row ∈ trellis12Rows, row.length = 4 ∧ row.Nodup := by
  decide

theorem trellis34Rows_distinct : trellis34Rows.length = 8 ∧ ∀ row ∈ trellis34Rows, row.length = 8 ∧ row.Nodup := by
  decide

/-- Settles O36, one condition of R8 after another. -/
theorem parametersAreWellFormed : Obligations.ParametersAreWellFormed := by
  unfold Obligations.ParametersAreWellFormed
  refine ⟨trellis12Rows_distinct, trellis34Rows_distinct, ?_, ?_, ?_, blockIlv_perm, voicePerm_perm,
    ⟨0x1E237, polyProduct_bchGen⟩, gfAlpha_order⟩
  · exact ⟨ham15P_columns_length, hammingColumns_nodup_nonzero ham15P_subperm⟩
  · exact ⟨ham10P_columns_length, hammingColumns_nodup_nonzero ham10P_subperm⟩
  · obtain ⟨hlead, habove⟩ := cyc16Gen_degree
    exact ⟨hlead, habove, fun a b ha hb hab => le_differences_of_le_ones five_le_ones_polyProduct_cyc16Gen ha hb hab⟩

end Sys2Proof.Parameters
end

/-!
PROOFS. The output trace is appended to and never read (10 R40). A run is followed as a function of the records already
there: what it answers is fixed before they are chosen, and they stand unread at the front of the trace it leaves.
-/

namespace Sys2Proof.Output

open Sys2Proof.Machine

/-! ## The commands by form -/

/-- The forms a meaning can have. -/
inductive CommandForm : (State → Host.Outcome State Fault Refusal) → Prop
  | feed (v : BitVec 8) : CommandForm (execFeed v)
  | reset : CommandForm execReset
  | rdstat : CommandForm execRdstat
  | value {n k : Nat} (W : Nat) (v : BitVec n) (f : BitVec W → BitVec k) :
      CommandForm (pureCommand W v fun m => okResponse (f m))
  | decode {n k w : Nat} (W : Nat) (v : BitVec n) (dec : BitVec W → Decoded (BitVec k) (BitVec w)) :
      CommandForm (pureCommand W v fun r => decodedResponse (dec r))
  | interleaver {α : Type} {n k : Nat} (W : Nat) (v : BitVec n) (work : BitVec W → Except FaultCause α)
      (f : α → BitVec k) :
      CommandForm fun s => .next (withOperand W v s fun m => finishOrFault s ((work m).map fun x => okResponse (f x)))
  | illegal : CommandForm illegalOpcode
  | duidRow (duid : BitVec 4) (nac : BitVec 12) (errs : Nat) : CommandForm (duidRow duid nac errs)

/-- Every instruction has one of the forms. -/
theorem exec_form (i : Instr) : CommandForm (exec i) := by
  cases i with
  | feed v => exact .feed v
  | reset => exact .reset
  | rdstat => exact .rdstat
  | syncchk v | g23e v | g24e v | g18e v | b63e v | b64e v | h15e v | h10e v | c16e v | rs2412e v | rs2416e v
  | rs3620e v | t12e v | t34e v => exact .value _ v _
  | nidchk v | g23d v | g24d v | g18d v | b63d v | b64d v | h15d v | h10d v | c16d v | rs2412d v | rs2416d v
  | rs3620d v | t12d v | t34d v => exact .decode _ v _
  | bilv v | bdilv v => exact .interleaver _ v _ _
  | illegal00 | illegal06 | illegal08 | illegal16 | illegal1C | illegal26 | illegal28 | illegal36 | illegal38
  | illegal46 | illegal48 | illegal50 | illegal60 | illegal80 => exact .illegal
  | duid0Hdu nac errs | duid1Unrecognized nac errs | duid2Unrecognized nac errs | duid3Tdu nac errs
  | duid4Unrecognized nac errs | duid5Ldu1 nac errs | duid6Unrecognized nac errs | duid7Pdu nac errs
  | duid8Unrecognized nac errs | duid9Pdu nac errs | duidALdu2 nac errs | duidBUnrecognized nac errs
  | duidCPdu nac errs | duidDUnrecognized nac errs | duidEUnrecognized nac errs | duidFTdulc nac errs =>
    exact .duidRow _ nac errs

/-! ## Runs as functions of the records already there -/

/-- The state with other records in the trace. -/
def withOut (s : State) (o : List Record) : State := { s with out := o }

/-- What a run comes to on the records `o` already there. The answer is chosen before `o`, so it does not depend on
them. -/
inductive AppendsOnly (run : List Record → Host.Outcome State Fault Refusal) : Prop
  | silent (t : State) (r : Response) (hresp : t.resp = some r) (hev : r.event ≠ .emitted)
      (hrun : ∀ o, run o = .next (withOut t o))
  | emits (t : State) (r : Response) (x : Record) (hresp : t.resp = some r) (hev : r.event = .emitted)
      (hst : t.st = .searching) (hunit : t.unit = none) (hrun : ∀ o, run o = .next (withOut t (o ++ [x])))
  | stops (c : Fault) (hrun : ∀ o, run o = .fault c)

theorem appendsOnly_respond (s : State) {r : Response} (hev : r.event ≠ .emitted) :
    AppendsOnly fun o => .next (respond r (withOut s o)) :=
  .silent (respond r s) r rfl hev fun _ => rfl

theorem appendsOnly_raiseFault (c : FaultCause) (s : State) :
    AppendsOnly fun o => .next (raiseFault c (withOut s o)) :=
  .silent (raiseFault c s) faultedResponse rfl nofun fun _ => rfl

/-- A refusal answers FAULTED, which is no emission (R411). -/
theorem appendsOnly_refuse (s : State) : AppendsOnly fun o => .next (refuse (withOut s o)) :=
  appendsOnly_respond s nofun

/-- The checks before a command read `st` and the operand alone (R413). -/
theorem appendsOnly_withOperand {n W : Nat} {v : BitVec n} {s : State} {run : State → BitVec W → State}
    (h : ∀ m, AppendsOnly fun o => .next (run (withOut s o) m)) :
    AppendsOnly fun o => .next (withOperand W v (withOut s o) (run (withOut s o))) := by
  by_cases hst : s.st = .faulted
  · have hrefuse o : withOperand W v (withOut s o) (run (withOut s o)) = refuse (withOut s o) :=
      withOperand_faulted W v _ _ hst
    simpa only [hrefuse] using appendsOnly_refuse s
  · rcases Nat.lt_or_ge v.toNat (2 ^ W) with hfits | hwide
    · have hgo o : withOperand W v (withOut s o) (run (withOut s o)) = run (withOut s o) (v.setWidth W) :=
        withOperand_run W v _ _ hst hfits
      simpa only [hgo] using h (v.setWidth W)
    · have hfault o : withOperand W v (withOut s o) (run (withOut s o)) = raiseFault .operandRange (withOut s o) :=
        withOperand_overwide W v _ _ hst hwide
      simpa only [hfault] using appendsOnly_raiseFault .operandRange s

theorem appendsOnly_illegalOpcode (s : State) : AppendsOnly fun o => illegalOpcode (withOut s o) := by
  by_cases hst : s.st = .faulted
  · have hrefuse o : illegalOpcode (withOut s o) = .next (refuse (withOut s o)) :=
      congrArg Host.Outcome.next (unlessFaulted_faulted (withOut s o) _ hst)
    simpa only [hrefuse] using appendsOnly_refuse s
  · have hfault o : illegalOpcode (withOut s o) = .next (raiseFault .illegalOpcode (withOut s o)) :=
      congrArg Host.Outcome.next (unlessFaulted_ready (withOut s o) _ hst)
    simpa only [hfault] using appendsOnly_raiseFault .illegalOpcode s

/-! ## The framer -/

/-- What a framer step comes to on the records `o` already there: `AppendsOnly` before the response is given. -/
inductive StepAppendsOnly (step : List Record → Except FaultCause (State × Event)) : Prop
  | silent (t : State) (ev : Event) (hev : ev ≠ .emitted) (hstep : ∀ o, step o = .ok (withOut t o, ev))
  | emits (t : State) (x : Record) (hst : t.st = .searching) (hunit : t.unit = none)
      (hstep : ∀ o, step o = .ok (withOut t (o ++ [x]), .emitted))
  | faults (c : FaultCause) (hstep : ∀ o, step o = .error c)

theorem stepAppendsOnly_searchStep (d : Dibit) (s : State) :
    StepAppendsOnly fun o => .ok (searchStep d (withOut s o)) := by
  cases hcorr : correlates (shiftWindow s.window d) with
  | true =>
    exact .silent { s with
      window := shiftWindow s.window d, fbuf := windowDibits (shiftWindow s.window d), st := .identifying } .sync
      nofun fun o => by simp [searchStep, withOut, hcorr]
  | false =>
    exact .silent { s with window := shiftWindow s.window d } .none
      nofun fun o => by simp [searchStep, withOut, hcorr]

/-- The dispatch of a NID commutes with any choice of the records, and emits none (R327, R328). -/
theorem dispatchNid_withOut (duid : BitVec 4) (nac : BitVec 12) (cw : BitVec 64) (errs : Nat) (s : State) :
    ∃ t ev, ev ≠ Event.emitted ∧ ∀ o, dispatchNid duid nac cw errs (withOut s o) = (withOut t o, ev) := by
  cases hvar : variantOf duid with
  | some variant =>
    exact ⟨{ s with unit := some (newUnit variant duid nac cw errs), st := .reading }, .none, nofun,
      fun o => by simp [dispatchNid, withOut, hvar]⟩
  | none => exact ⟨rejectCandidate s, .unrecognized, nofun, fun o => by simp only [dispatchNid, hvar]; rfl⟩

theorem stepAppendsOnly_nidStep (s : State) : StepAppendsOnly fun o => nidStep (withOut s o) := by
  cases hnid : frameNid s.fbuf with
  | error c =>
    have hfbuf o : frameNid (withOut s o).fbuf = .error c := hnid
    exact .faults c fun o => by rw [nidStep, hfbuf]; rfl
  | ok nid =>
    have hstep o := nidStep_eq (s := withOut s o) hnid
    simp only [hstep]
    cases nidValidate nid with
    | ok i c n =>
      obtain ⟨t, ev, hev, hdispatch⟩ := dispatchNid_withOut (i.extractLsb' 0 4) (i.extractLsb' 4 12) c n s
      exact .silent t ev hev fun o => congrArg _ (hdispatch o)
    | fail => exact .silent (rejectCandidate s) .nidFail nofun fun _ => rfl

/-- A FEED in IDENTIFYING appends the dibit, and runs the NID step on the 57th (R325, R326). -/
theorem identifyStep_eq (d : Dibit) (s : State) :
    identifyStep d s = if s.fbuf.length + 1 = 57 then nidStep { s with fbuf := s.fbuf ++ [d] }
      else .ok ({ s with fbuf := s.fbuf ++ [d] }, .none) := by
  simp [identifyStep]

theorem stepAppendsOnly_identifyStep (d : Dibit) (s : State) :
    StepAppendsOnly fun o => identifyStep d (withOut s o) := by
  by_cases hpos : s.fbuf.length + 1 = 57
  · have hnid o : identifyStep d (withOut s o) = nidStep (withOut { s with fbuf := s.fbuf ++ [d] } o) :=
      (identifyStep_eq d (withOut s o)).trans (if_pos hpos)
    simpa only [hnid] using stepAppendsOnly_nidStep { s with fbuf := s.fbuf ++ [d] }
  · exact .silent { s with fbuf := s.fbuf ++ [d] } .none
      nofun fun o => (identifyStep_eq d (withOut s o)).trans (if_neg hpos)

/-- A completion decodes the frame buffer and the unit alone, and appends the one record (R331). -/
theorem stepAppendsOnly_completeUnit (f : List Dibit) (u : DataUnit) (s : State) :
    StepAppendsOnly fun o => completeUnit f u (withOut s o) := by
  cases hdec : decodeUnit f { u with life := .complete } with
  | error c => exact .faults c fun o => by rw [completeUnit, hdec]; rfl
  | ok r => exact .emits (enterSearching s) r.1 rfl rfl fun o => by rw [completeUnit, hdec]; rfl

theorem stepAppendsOnly_readStep (d : Dibit) (s : State) : StepAppendsOnly fun o => readStep d (withOut s o) := by
  cases hunit : s.unit with
  | none =>
    have hnone o : (withOut s o).unit = none := hunit
    exact .faults .protocolExtendComplete fun o => by simp only [readStep, hnone]
  | some u =>
    cases hext : extend d s.fbuf u with
    | error c =>
      have hsome o : (withOut s o).unit = some u := hunit
      have hfbuf o : extend d (withOut s o).fbuf u = .error c := hext
      exact .faults c fun o => by simp only [readStep, hsome, hfbuf]; rfl
    | ok fu =>
      obtain ⟨f, u'⟩ := fu
      have hstep o := readStep_eq (s := withOut s o) hunit hext
      simp only [hstep]
      cases isComplete f.length u' with
      | true => exact stepAppendsOnly_completeUnit f u' s
      | false => exact .silent { s with fbuf := f, unit := some u' } .none nofun fun _ => rfl

theorem feedStep_searching {s : State} (d : Dibit) (h : s.st = .searching) :
    feedStep d s = .ok (searchStep d s) := by rw [feedStep, h]

theorem feedStep_identifying {s : State} (d : Dibit) (h : s.st = .identifying) :
    feedStep d s = identifyStep d s := by rw [feedStep, h]

theorem feedStep_reading {s : State} (d : Dibit) (h : s.st = .reading) : feedStep d s = readStep d s := by
  rw [feedStep, h]

theorem feedStep_faulted {s : State} (d : Dibit) (h : s.st = .faulted) : feedStep d s = .ok (s, .none) := by
  rw [feedStep, h]

theorem stepAppendsOnly_feedStep (d : Dibit) (s : State) : StepAppendsOnly fun o => feedStep d (withOut s o) := by
  cases hst : s.st with
  | searching =>
    have hstep o := feedStep_searching (s := withOut s o) d hst
    simpa only [hstep] using stepAppendsOnly_searchStep d s
  | identifying =>
    have hstep o := feedStep_identifying (s := withOut s o) d hst
    simpa only [hstep] using stepAppendsOnly_identifyStep d s
  | reading =>
    have hstep o := feedStep_reading (s := withOut s o) d hst
    simpa only [hstep] using stepAppendsOnly_readStep d s
  | faulted => exact .silent s .none nofun fun o => feedStep_faulted d hst

/-- A FEED reports the event of its framer step, so it answers EMITTED exactly when the step emits (R320). -/
theorem appendsOnly_feedDibit (s : State) (d : Dibit) :
    AppendsOnly fun o => .next (feedDibit (withOut s o) d) := by
  cases stepAppendsOnly_feedStep d s with
  | silent t ev hev hstep =>
    exact .silent (feedDone (t, ev)) (feedResponse ev t.st) rfl hev fun o => by rw [feedDibit, hstep]; rfl
  | emits t x hst hunit hstep =>
    exact .emits (feedDone (t, .emitted)) (feedResponse .emitted t.st) x rfl rfl hst hunit
      fun o => by rw [feedDibit, hstep]; rfl
  | faults c hstep =>
    have hfault o : feedDibit (withOut s o) d = raiseFault c (withOut s o) := by rw [feedDibit, hstep]
    simpa only [hfault] using appendsOnly_raiseFault c s

theorem appendsOnly_duidRow (duid : BitVec 4) (nac : BitVec 12) (errs : Nat) (s : State) :
    AppendsOnly fun o => duidRow duid nac errs (withOut s o) := by
  by_cases hat : s.st = .identifying ∧ s.pos = 57
  · obtain ⟨t, ev, hev, hdispatch⟩ := dispatchNid_withOut duid nac (enc64 (nac ++ duid)) errs s
    have hrun o : duidRow duid nac errs (withOut s o) =
        .next (feedDone (dispatchNid duid nac (enc64 (nac ++ duid)) errs (withOut s o))) := if_pos hat
    exact .silent (feedDone (t, ev)) (feedResponse ev t.st) rfl hev fun o => by rw [hrun, hdispatch]; rfl
  · exact .stops .notAtNidStep fun o => if_neg hat

/-! ## Every instruction -/

/-- A decode, whether it succeeds or fails, gives no event (R140). -/
theorem decodedResponse_event {k n : Nat} (x : Decoded (BitVec k) (BitVec n)) : (decodedResponse x).event = .none := by
  cases x <;> rfl

/-- Work on the operand alone that may raise a fault: it answers, or the fault is taken, on any records. -/
theorem appendsOnly_finishOrFault {α : Type} {k : Nat} (s : State) (work : Except FaultCause α) (f : α → BitVec k) :
    AppendsOnly fun o => .next (finishOrFault (withOut s o) (work.map fun x => okResponse (f x))) := by
  cases work with
  | ok x => exact appendsOnly_respond s (r := okResponse (f x)) nofun
  | error c => exact appendsOnly_raiseFault c s

theorem CommandForm.appendsOnly {run : State → Host.Outcome State Fault Refusal} (h : CommandForm run) (s : State) :
    AppendsOnly fun o => run (withOut s o) := by
  cases h with
  | feed v => exact appendsOnly_withOperand (run := feedDibit) (appendsOnly_feedDibit s)
  | reset => exact appendsOnly_respond (resetBlock s) (r := okResponse (0 : BitVec 1)) nofun
  | rdstat => exact appendsOnly_respond s (r := okResponse (statusWord s)) nofun
  | value W v f =>
    exact appendsOnly_withOperand (run := fun s m => respond (okResponse (f m)) s) fun m =>
      appendsOnly_respond s (r := okResponse (f m)) nofun
  | decode W v dec =>
    exact appendsOnly_withOperand (run := fun s r => respond (decodedResponse (dec r)) s) fun r =>
      appendsOnly_respond s (by simp [decodedResponse_event])
  | interleaver W v work f =>
    exact appendsOnly_withOperand (run := fun s m => finishOrFault s ((work m).map fun x => okResponse (f x)))
      fun m => appendsOnly_finishOrFault s (work m) f
  | illegal => exact appendsOnly_illegalOpcode s
  | duidRow duid nac errs => exact appendsOnly_duidRow duid nac errs s

/-- Settles O59: the answer fixed before the records are chosen is taken at the records of `s`, then at any others. -/
theorem outputIsAppendOnlyAndNeverRead : Obligations.OutputIsAppendOnlyAndNeverRead := by
  unfold Obligations.OutputIsAppendOnlyAndNeverRead
  intro i s t h
  cases (exec_form i).appendsOnly s with
  | silent t' r hresp hev hrun =>
    obtain rfl : withOut t' s.out = t := Host.Outcome.next.inj ((hrun s.out).symm.trans h)
    refine ⟨⟨r, hresp, .inr ⟨hev, rfl⟩⟩, fun o => (hrun o).trans ?_⟩
    simp [withOut]
  | emits t' r x hresp hev hst hunit hrun =>
    obtain rfl : withOut t' (s.out ++ [x]) = t := Host.Outcome.next.inj ((hrun s.out).symm.trans h)
    refine ⟨⟨r, hresp, .inl ⟨hev, ⟨x, rfl⟩, hst, hunit⟩⟩, fun o => (hrun o).trans ?_⟩
    simp [withOut]
  | stops c hrun => exact nomatch (hrun s.out).symm.trans h

end Sys2Proof.Output

/-!
PROOFS. What SCATTER writes and leaves (20 R67), and that status symbols are neither reported nor checked (20 R64): a
FEED reads the frame buffer through its length and its data dibits alone.
-/

namespace Sys2Proof.Memory

open Sys2Proof.Machine Sys2Proof.Safety Sys2Proof.Output

/-! ## SCATTER and GATHER -/

theorem bits_getElem? {v n j : Nat} (hj : j < n) : (bits v n)[j]? = some (v.testBit (n - 1 - j)) := by
  simp [bits, hj]

theorem setBits_getElem?_of_notMem {s : Bits} {idx : List Nat} {b : Bits} {i : Nat} (hi : i ∉ idx) :
    (setBits s idx b)[i]? = s[i]? := by
  induction s, idx, b using setBits.induct with
  | case1 s k is x b ih =>
    obtain ⟨hne, hnotMem⟩ := not_or.mp (mt List.mem_cons.mpr hi)
    rw [setBits, ih hnotMem, List.getElem?_set_ne (Ne.symm hne)]
  | case2 b s idx hnil => rw [setBits]; exact hnil

/-- Later positions do not overwrite an earlier one when the positions are distinct. -/
theorem setBits_getElem?_of_getElem? {s : Bits} {idx : List Nat} {b : Bits} {i j : Nat} {x : Bool}
    (hnodup : idx.Nodup) (hidx : idx[j]? = some i) (hb : b[j]? = some x) (hi : i < s.length) :
    (setBits s idx b)[i]? = some x := by
  induction s, idx, b using setBits.induct generalizing j with
  | case1 s k is y b ih =>
    obtain ⟨hk, his⟩ := List.nodup_cons.mp hnodup
    rw [setBits]
    cases j with
    | zero =>
      obtain rfl : k = i := by simpa using hidx
      obtain rfl : y = x := by simpa using hb
      rw [setBits_getElem?_of_notMem hk, List.getElem?_set_self hi]
    | succ j => exact ih his (by simpa using hidx) (by simpa using hb) (by simpa using hi)
  | case2 b s idx hnil =>
    cases idx with
    | nil => simp at hidx
    | cons k is =>
      cases b with
      | nil => simp at hb
      | cons y b => exact (hnil k is y b rfl rfl).elim

/-- The bits that were written are read back, in order. -/
theorem map_getD_setBits {s : Bits} {idx : List Nat} {b : Bits} (hnodup : idx.Nodup)
    (hrange : ∀ i ∈ idx, i < s.length) (hlen : b.length = idx.length) :
    (idx.map fun i => (setBits s idx b).getD i false) = b := by
  refine List.ext_getElem (by simp [hlen]) fun j hj hjb => ?_
  have hjidx : j < idx.length := by simpa using hj
  have hread := setBits_getElem?_of_getElem? hnodup (List.getElem?_eq_getElem hjidx) (List.getElem?_eq_getElem hjb)
    (hrange _ (List.getElem_mem hjidx))
  rw [List.getElem_map, List.getD_eq_getElem?_getD, hread, Option.getD_some]

/-- GATHER undoes SCATTER's write on a value that fits. -/
theorem gather_setBits {s : Bits} {idx : List Nat} {v : Nat} (hv : v < 2 ^ idx.length) (hnodup : idx.Nodup)
    (hrange : ∀ i ∈ idx, i < s.length) : gather (setBits s idx (bits v idx.length)) idx = .ok v := by
  rw [gather_eq_ok (by simpa using hrange), map_getD_setBits hnodup hrange (bits_length ..), int_bits v _ hv]

theorem scatter_eq_indexRange {s : Bits} {idx : List Nat} {v : Nat} (h : ∃ i ∈ idx, s.length ≤ i) :
    scatter s idx v = .error .indexRange := by
  have hout : ¬ inRange s idx = true := fun hin => by
    obtain ⟨i, hi, hle⟩ := h
    exact absurd (inRange_iff.mp hin i hi) (Nat.not_lt.mpr hle)
  exact if_neg hout

/-- Settles O34, from what a write at distinct positions in range reads as, position by position. -/
theorem gatherUndoesScatter : Obligations.GatherUndoesScatter := by
  unfold Obligations.GatherUndoesScatter
  intro s idx v hv
  refine ⟨fun hrange hnodup => ?_, scatter_eq_indexRange⟩
  refine ⟨_, scatter_eq_ok hrange, setBits_length .., gather_setBits hv hnodup hrange, fun j hj i hi => ?_,
    fun i hi => setBits_getElem?_of_notMem hi⟩
  exact setBits_getElem?_of_getElem? hnodup hi (bits_getElem? hj) (hrange i (List.mem_of_getElem? hi))

/-! ## Frames with the same data dibits -/

/-- Two frames of one length that differ at most at status positions (R62). -/
structure SameData (f g : List Dibit) : Prop where
  length_eq : g.length = f.length
  dibit_eq : ∀ p, p % 36 ≠ 35 → g[p]? = f[p]?

/-- The state with another frame buffer. -/
def withFrame (s : State) (g : List Dibit) : State := { s with fbuf := g }

@[simp] theorem withFrame_st (s : State) (g : List Dibit) : (withFrame s g).st = s.st := rfl
@[simp] theorem withFrame_window (s : State) (g : List Dibit) : (withFrame s g).window = s.window := rfl
@[simp] theorem withFrame_fbuf (s : State) (g : List Dibit) : (withFrame s g).fbuf = g := rfl
@[simp] theorem withFrame_unit (s : State) (g : List Dibit) : (withFrame s g).unit = s.unit := rfl

theorem agreeOffStatus_iff {s t : State} :
    AgreeOffStatus s t ↔ ∃ g, SameData s.fbuf g ∧ t = withFrame s g := by
  constructor
  · rintro ⟨heq, hlen, hdibit⟩
    exact ⟨t.fbuf, ⟨hlen, hdibit⟩, heq⟩
  · rintro ⟨g, ⟨hlen, hdibit⟩, rfl⟩
    exact ⟨rfl, hlen, hdibit⟩

theorem SameData.refl (f : List Dibit) : SameData f f := ⟨rfl, fun _ _ => rfl⟩

theorem agreeOffStatus_st {s t : State} (h : AgreeOffStatus s t) : t.st = s.st := by
  obtain ⟨g, -, rfl⟩ := agreeOffStatus_iff.mp h
  exact withFrame_st s g

theorem agreeOffStatus_refl (s : State) : AgreeOffStatus s s := agreeOffStatus_iff.mpr ⟨s.fbuf, .refl _, rfl⟩

/-- One more dibit each, which may differ when it falls on a status position. -/
theorem SameData.snoc {f g : List Dibit} {d d' : Dibit} (h : SameData f g) (hd : d = d' ∨ f.length % 36 = 35) :
    SameData (f ++ [d]) (g ++ [d']) := by
  obtain ⟨hlen, hdibit⟩ := h
  refine ⟨by simp [hlen], fun p hp => ?_⟩
  rcases Nat.lt_trichotomy p f.length with hlt | rfl | hgt
  · rw [List.getElem?_append_left hlt, List.getElem?_append_left (hlen ▸ hlt), hdibit p hp]
  · obtain rfl := hd.resolve_right hp
    rw [List.getElem?_concat_length, ← hlen, List.getElem?_concat_length]
  · rw [List.getElem?_eq_none (by simp; omega), List.getElem?_eq_none (by simp; omega)]

theorem isStatus_iff {p : Nat} : isStatus p = true ↔ p % 36 = 35 := beq_iff_eq

/-- Status stripping reads nothing at a status position (R63). -/
theorem dataDibitsFrom_congr {p : Nat} {f g : List Dibit} (hlen : g.length = f.length)
    (h : ∀ i, (p + i) % 36 ≠ 35 → g[i]? = f[i]?) : dataDibitsFrom p g = dataDibitsFrom p f := by
  induction f generalizing p g with
  | nil => rw [List.length_eq_zero_iff.mp hlen]
  | cons d f ih =>
    obtain ⟨d', g, rfl⟩ := List.exists_cons_of_length_eq_add_one hlen
    have htail : dataDibitsFrom (p + 1) g = dataDibitsFrom (p + 1) f :=
      ih (by simpa using hlen) fun i hi => by simpa using h (i + 1) (by omega)
    rw [dataDibitsFrom, dataDibitsFrom, htail]
    by_cases hp : p % 36 = 35
    · rw [if_pos (isStatus_iff.mpr hp), if_pos (isStatus_iff.mpr hp)]
    · obtain rfl : d' = d := by simpa using h 0 hp
      rfl

theorem SameData.dataBits_eq {f g : List Dibit} (h : SameData f g) : dataBits g = dataBits f := by
  rw [dataBits, dataDibits, dataDibitsFrom_congr h.length_eq (by simpa using h.dibit_eq)]
  rfl

/-! ## What the framer reads of a frame -/

theorem SameData.frameNid_eq {f g : List Dibit} (h : SameData f g) : frameNid g = frameNid f := by
  rw [frameNid, h.dataBits_eq, frameNid]

theorem SameData.pduStep_eq {f g : List Dibit} (h : SameData f g) (u : DataUnit) : pduStep g u = pduStep f u := by
  simp only [pduStep, h.dataBits_eq, h.length_eq]

theorem SameData.decodeUnit_eq {f g : List Dibit} (h : SameData f g) (u : DataUnit) :
    decodeUnit g u = decodeUnit f u := by
  simp only [decodeUnit, h.dataBits_eq, h.length_eq]

/-- Two extends of one unit both fault alike, or both append their dibit and give the same unit (R263). -/
theorem SameData.extend_cases {f g : List Dibit} {d d' : Dibit} (h : SameData (f ++ [d]) (g ++ [d'])) (u : DataUnit) :
    (∃ c, extend d f u = .error c ∧ extend d' g u = .error c) ∨
    (∃ u', extend d f u = .ok (f ++ [d], u') ∧ extend d' g u = .ok (g ++ [d'], u')) := by
  by_cases hlife : u.life = .accumulating
  · by_cases hpdu : u.variant = .pdu
    · rw [extend_pdu hlife hpdu, extend_pdu hlife hpdu, h.pduStep_eq]
      cases pduStep (f ++ [d]) u with
      | error c => exact .inl ⟨c, rfl, rfl⟩
      | ok u' => exact .inr ⟨u', rfl, rfl⟩
    · exact .inr ⟨u, extend_fixed hlife hpdu, extend_fixed hlife hpdu⟩
  · exact .inl ⟨_, extend_not_accumulating hlife, extend_not_accumulating hlife⟩

/-! ## Framer steps on agreeing states -/

/-- Two framer steps end alike: with the same event on agreeing states, or with the same fault. -/
inductive StepsAgree : Except FaultCause (State × Event) → Except FaultCause (State × Event) → Prop
  | done {t t' : State} (ev : Event) (h : AgreeOffStatus t t') : StepsAgree (.ok (t, ev)) (.ok (t', ev))
  | fault (c : FaultCause) : StepsAgree (.error c) (.error c)

theorem StepsAgree.refl (x : Except FaultCause (State × Event)) : StepsAgree x x := by
  cases x with
  | error c => exact .fault c
  | ok r => exact .done r.2 (agreeOffStatus_refl r.1)

section Steps

variable {s : State} {g : List Dibit} {d d' : Dibit}

/-- The frame buffer is not read in SEARCHING (R321 to R324). -/
theorem stepsAgree_searchStep (h : SameData s.fbuf g) :
    StepsAgree (.ok (searchStep d s)) (.ok (searchStep d (withFrame s g))) := by
  rw [searchStep, searchStep, withFrame_window]
  cases correlates (shiftWindow s.window d) with
  | true => exact .refl _
  | false => exact .done .none (agreeOffStatus_iff.mpr ⟨g, h, rfl⟩)

/-- A created unit leaves the frame buffer where it is, and a rejection clears it (R327, R328). -/
theorem stepsAgree_dispatchNid (h : SameData s.fbuf g) (duid : BitVec 4) (nac : BitVec 12) (cw : BitVec 64)
    (errs : Nat) :
    StepsAgree (.ok (dispatchNid duid nac cw errs s)) (.ok (dispatchNid duid nac cw errs (withFrame s g))) := by
  rw [dispatchNid, dispatchNid]
  cases variantOf duid with
  | some variant => exact .done .none (agreeOffStatus_iff.mpr ⟨g, h, rfl⟩)
  | none => exact .refl _

theorem stepsAgree_nidStep (h : SameData s.fbuf g) : StepsAgree (nidStep s) (nidStep (withFrame s g)) := by
  cases hnid : frameNid s.fbuf with
  | error c =>
    have hnid' : frameNid g = .error c := h.frameNid_eq.trans hnid
    rw [nidStep, nidStep, withFrame_fbuf, hnid, hnid']
    exact .fault c
  | ok nid =>
    have hnid' : frameNid g = .ok nid := h.frameNid_eq.trans hnid
    rw [nidStep_eq hnid, nidStep_eq (s := withFrame s g) hnid']
    cases nidValidate nid with
    | fail => exact .refl _
    | ok i c n => exact stepsAgree_dispatchNid h _ _ c n

theorem stepsAgree_identifyStep (h : SameData (s.fbuf ++ [d]) (g ++ [d'])) :
    StepsAgree (identifyStep d s) (identifyStep d' (withFrame s g)) := by
  have hlen : g.length = s.fbuf.length := by simpa using h.length_eq
  rw [identifyStep_eq, identifyStep_eq, withFrame_fbuf, hlen]
  by_cases hpos : s.fbuf.length + 1 = 57
  · rw [if_pos hpos, if_pos hpos]
    exact stepsAgree_nidStep (s := { s with fbuf := s.fbuf ++ [d] }) h
  · rw [if_neg hpos, if_neg hpos]
    exact .done .none (agreeOffStatus_iff.mpr ⟨g ++ [d'], h, rfl⟩)

/-- A completion reads the two frames alike, and leaves neither behind (R331). -/
theorem stepsAgree_completeUnit {f f' : List Dibit} (h : SameData f f') (u : DataUnit) :
    StepsAgree (completeUnit f u s) (completeUnit f' u (withFrame s g)) := by
  rw [completeUnit, completeUnit, h.decodeUnit_eq]
  cases decodeUnit f { u with life := .complete } with
  | error c => exact .fault c
  | ok r => exact .refl _

theorem stepsAgree_readStep (h : SameData (s.fbuf ++ [d]) (g ++ [d'])) :
    StepsAgree (readStep d s) (readStep d' (withFrame s g)) := by
  cases hunit : s.unit with
  | none =>
    simp only [readStep, withFrame_unit, hunit]
    exact .fault _
  | some u =>
    rcases h.extend_cases u with ⟨c, hext, hext'⟩ | ⟨u', hext, hext'⟩
    · simp only [readStep, withFrame_unit, withFrame_fbuf, hunit, hext, hext']
      exact .fault c
    · rw [readStep_eq hunit hext, readStep_eq (s := withFrame s g) hunit hext', h.length_eq]
      cases isComplete (s.fbuf ++ [d]).length u' with
      | true => exact stepsAgree_completeUnit h u'
      | false => exact .done .none (agreeOffStatus_iff.mpr ⟨g ++ [d'], h, rfl⟩)

theorem stepsAgree_feedStep (h : SameData s.fbuf g)
    (hd : d = d' ∨ s.st ≠ .searching ∧ s.fbuf.length % 36 = 35) :
    StepsAgree (feedStep d s) (feedStep d' (withFrame s g)) := by
  have hsnoc : SameData (s.fbuf ++ [d]) (g ++ [d']) := h.snoc (hd.imp_right And.right)
  cases hst : s.st with
  | searching =>
    obtain rfl : d = d' := hd.resolve_right fun hne => hne.1 hst
    rw [feedStep_searching d hst, feedStep_searching (s := withFrame s g) d hst]
    exact stepsAgree_searchStep h
  | identifying =>
    rw [feedStep_identifying d hst, feedStep_identifying (s := withFrame s g) d' hst]
    exact stepsAgree_identifyStep hsnoc
  | reading =>
    rw [feedStep_reading d hst, feedStep_reading (s := withFrame s g) d' hst]
    exact stepsAgree_readStep hsnoc
  | faulted =>
    rw [feedStep_faulted d hst, feedStep_faulted (s := withFrame s g) d' hst]
    exact .done .none (agreeOffStatus_iff.mpr ⟨g, h, rfl⟩)

end Steps

/-! ## FEED -/

theorem agreeOffStatus_respond {s t : State} (r : Response) (h : AgreeOffStatus s t) :
    AgreeOffStatus (respond r s) (respond r t) := by
  obtain ⟨g, hdata, rfl⟩ := agreeOffStatus_iff.mp h
  exact agreeOffStatus_iff.mpr ⟨g, hdata, rfl⟩

theorem agreeOffStatus_raiseFault {s t : State} (c : FaultCause) (h : AgreeOffStatus s t) :
    AgreeOffStatus (raiseFault c s) (raiseFault c t) := by
  obtain ⟨g, hdata, rfl⟩ := agreeOffStatus_iff.mp h
  exact agreeOffStatus_iff.mpr ⟨g, hdata, rfl⟩

/-- The two answers report one event and one `st` (R320), or one fault (R410). -/
theorem agreeOffStatus_feedDibit {s t : State} {d d' : Dibit} (h : AgreeOffStatus s t)
    (hd : d = d' ∨ s.st ≠ .searching ∧ s.fbuf.length % 36 = 35) :
    AgreeOffStatus (feedDibit s d) (feedDibit t d') := by
  have hsteps : StepsAgree (feedStep d s) (feedStep d' t) := by
    obtain ⟨g, hdata, rfl⟩ := agreeOffStatus_iff.mp h
    exact stepsAgree_feedStep hdata hd
  rw [feedDibit, feedDibit]
  generalize feedStep d s = x, feedStep d' t = x' at hsteps
  cases hsteps with
  | fault c => exact agreeOffStatus_raiseFault c h
  | @done r r' ev hagree =>
    dsimp only [feedDone]
    rw [agreeOffStatus_st hagree]
    exact agreeOffStatus_respond _ hagree

/-- Settles O57: a FEED in FAULTED is refused on both states, and any other runs agreeing framer steps. -/
theorem statusSymbolsNeverMatter : Obligations.StatusSymbolsNeverMatter := by
  unfold Obligations.StatusSymbolsNeverMatter
  intro s s' v v' h hv hv' hd
  refine ⟨_, _, rfl, rfl, ?_⟩
  have hst : s'.st = s.st := agreeOffStatus_st h
  by_cases hfaulted : s.st = .faulted
  · rw [withOperand_faulted 2 v s _ hfaulted, withOperand_faulted 2 v' s' _ (hst.trans hfaulted)]
    exact agreeOffStatus_respond _ h
  · rw [withOperand_run 2 v s _ hfaulted hv, withOperand_run 2 v' s' _ (hst ▸ hfaulted) hv']
    exact agreeOffStatus_feedDibit h (hd.imp_left (congrArg _))

end Sys2Proof.Memory

/-!
PROOFS. The opcodes outside the command table (30 R132): what the decoder takes for one, and what the block does with it.
-/

namespace Sys2Proof.Opcodes

open Sys2Proof.Machine Sys2Proof.Safety

/-- An opcode outside the table takes no operand octets: the command word is that one octet. -/
theorem decode_cons_of_notMem_opcodeTable {op : Octet} (rest : List Octet) (h : op ∉ opcodeTable.map Prod.fst) :
    decode (op :: rest) = .ok (decodeIllegal op, rest) := by
  have hne (n : Nat) (hn : BitVec.ofNat 8 n ∈ opcodeTable.map Prod.fst) : op.toNat ≠ n := by
    rintro rfl
    exact h (by rwa [BitVec.ofNat_toNat, BitVec.setWidth_eq] at hn)
  rw [decode]
  split
  case h_34 => rfl
  all_goals next heq => exact absurd heq (hne _ (by decide))

/-- Whichever row of illegal opcodes the ranges of R132 select, its meaning is the same. -/
theorem exec_decodeIllegal (op : Octet) (s : State) : exec (decodeIllegal op) s = illegalOpcode s := by
  unfold decodeIllegal
  repeat refine iteInduction (motive := fun i => exec i s = illegalOpcode s) (fun _ => rfl) fun _ => ?_
  rfl

/-- An illegal opcode outside FAULTED (R384, R410). -/
theorem illegalOpcode_eq_faultEntered {s : State} (h : Ready s) : illegalOpcode s = .next (faultEntered 1 s) :=
  congrArg Host.Outcome.next (unlessFaulted_ready s _ h)

theorem step_of_decode_eq_ok {s : State} {i : Instr} {rest : List Octet} (h : decode s.port = .ok (i, rest)) :
    step s = exec i { s with port := rest } := by
  rw [step, h]

/-- Settles O14: the decoder takes the one octet for a row of illegal opcodes, and every such row faults. -/
theorem unlistedOpcodeFaults : Obligations.UnlistedOpcodeFaults := by
  unfold Obligations.UnlistedOpcodeFaults
  intro op rest s hop hport hready
  have hdecode : decode s.port = .ok (decodeIllegal op, rest) := by
    rw [hport, decode_cons_of_notMem_opcodeTable rest hop]
  have hready' : Ready { s with port := rest } := hready
  calc step s
      = exec (decodeIllegal op) { s with port := rest } := step_of_decode_eq_ok hdecode
    _ = illegalOpcode { s with port := rest } := exec_decodeIllegal op _
    _ = .next (faultEntered 1 { s with port := rest }) := illegalOpcode_eq_faultEntered hready'

end Sys2Proof.Opcodes

/-!
PROOFS. The trellis round trip (42 R239): a row of NEXT has distinct entries (00 R8), so the transmitted codeword is the
one candidate at distance 0, and the decoder follows the encoder's path.
-/

namespace Sys2Proof.Trellis

open Sys2Proof.Machine Sys2Proof.Parameters

/-! ## Candidates -/

theorem mem_allSymbols {b : Nat} (x : BitVec b) : x ∈ allSymbols b :=
  List.mem_map.mpr ⟨x.toNat, List.mem_range.mpr x.isLt, by rw [BitVec.ofNat_toNat, BitVec.setWidth_eq]⟩

theorem allSymbols_nodup (b : Nat) : (allSymbols b).Nodup := by
  refine List.Nodup.map_on (fun i hi j hj hij => ?_) List.nodup_range
  have htoNat : i % 2 ^ b = j % 2 ^ b := by simpa using congrArg BitVec.toNat hij
  rwa [Nat.mod_eq_of_lt (List.mem_range.mp hi), Nat.mod_eq_of_lt (List.mem_range.mp hj)] at htoNat

/-- Only equal words are at distance 0 (R10). -/
theorem dist_eq_zero_iff {n : Nat} {a c : BitVec n} : dist a c = 0 ↔ a = c := by
  refine ⟨fun h => BitVec.eq_of_getLsbD_eq fun i hi => ?_, fun h => h ▸ dist_self a⟩
  rw [dist_eq, List.length_eq_zero_iff, List.filter_eq_nil_iff] at h
  simpa using h i (List.mem_range.mpr hi)

/-- In a square table with distinct entries in each row, a state and a codeword determine the input (R8). -/
theorem nextCodeword_injective {b : Nat} {rows : List (List Nibble)}
    (h : rows.length = 2 ^ b ∧ ∀ row ∈ rows, row.length = 2 ^ b ∧ row.Nodup) (s : BitVec b) :
    Function.Injective (nextCodeword rows s) := by
  intro x y hxy
  obtain ⟨hrows, hrow⟩ := h
  have hs : s.toNat < rows.length := hrows ▸ s.isLt
  obtain ⟨hlen, hnodup⟩ := hrow _ (List.getElem_mem hs)
  have hx : x.toNat < rows[s.toNat].length := hlen ▸ x.isLt
  have hy : y.toNat < rows[s.toNat].length := hlen ▸ y.isLt
  rw [nextCodeword, nextCodeword, List.getD_eq_getElem _ _ hs, List.getD_eq_getElem _ _ hx,
    List.getD_eq_getElem _ _ hy] at hxy
  exact BitVec.eq_of_toNat_eq (hnodup.getElem_inj_iff.mp hxy)

/-! ## One decoder step -/

theorem foldl_min_le_init {α : Type} (f : α → Nat) (l : List α) (m : Nat) :
    l.foldl (fun least x => min least (f x)) m ≤ m := by
  induction l generalizing m with
  | nil => exact Nat.le_refl m
  | cons x l ih => exact (ih _).trans (Nat.min_le_left m (f x))

theorem foldl_min_le_of_mem {α : Type} (f : α → Nat) {l : List α} {x : α} (h : x ∈ l) (m : Nat) :
    l.foldl (fun least x => min least (f x)) m ≤ f x := by
  induction h generalizing m with
  | head l => exact (foldl_min_le_init f l _).trans (Nat.min_le_right m (f x))
  | tail y _ ih => exact ih _

/-- No candidate of a state is nearer than the smallest distance (R234). -/
theorem leastDistance_le {b : Nat} (rows : List (List Nibble)) (s x : BitVec b) (w : Nibble) :
    leastDistance rows s w ≤ dist w (nextCodeword rows s x) :=
  foldl_min_le_of_mem (fun x => dist w (nextCodeword rows s x)) (mem_allSymbols x) 4

/-- A candidate itself is at distance 0. -/
theorem leastDistance_nextCodeword {b : Nat} (rows : List (List Nibble)) (s x : BitVec b) :
    leastDistance rows s (nextCodeword rows s x) = 0 :=
  Nat.le_zero.mp (dist_self (nextCodeword rows s x) ▸ leastDistance_le rows s x _)

section Injective

variable {b : Nat} {rows : List (List Nibble)} (hinj : ∀ s : BitVec b, Function.Injective (nextCodeword rows s))
include hinj

/-- A transmitted codeword does not tie (R234, R239). -/
theorem nearestInputs_nextCodeword (s x : BitVec b) : nearestInputs rows s (nextCodeword rows s x) = [x] := by
  have hnearest (y : BitVec b) : (dist (nextCodeword rows s x) (nextCodeword rows s y) == 0) = (y == x) := by
    rw [Bool.eq_iff_iff, beq_iff_eq, beq_iff_eq, dist_eq_zero_iff, (hinj s).eq_iff, eq_comm]
  calc nearestInputs rows s (nextCodeword rows s x)
      = (allSymbols b).filter (· == x) := by simp only [nearestInputs, leastDistance_nextCodeword, hnearest]
    _ = List.replicate ((allSymbols b).count x) x := List.filter_beq x
    _ = [x] := by rw [List.count_eq_one_of_mem (allSymbols_nodup b) (mem_allSymbols x), List.replicate_one]

/-! ## The decoder on the encoder's codewords -/

/-- From any state the decoder's steps undo the encoder's. -/
theorem trellisSteps_trellisFrom (s : BitVec b) (xs : List (BitVec b)) :
    trellisSteps rows s (trellisFrom rows s xs) = some (xs, 0) := by
  induction xs generalizing s with
  | nil => rfl
  | cons x xs ih =>
    simp only [trellisFrom, trellisSteps, nearestInputs_nextCodeword hinj, ih, leastDistance_nextCodeword]

/-- The flush symbol is decoded with the rest and dropped (R234). -/
theorem trellisDecode_trellisEncode (xs : List (BitVec b)) :
    trellisDecode rows (trellisEncode rows xs) = .ok xs (trellisEncode rows xs) 0 := by
  have hsteps : trellisSteps rows (0 : BitVec b) (trellisEncode rows xs) = some (xs ++ [0], 0) :=
    trellisSteps_trellisFrom hinj 0 (xs ++ [0])
  simp only [trellisDecode, hsteps, List.dropLast_concat]

end Injective

/-- Settles O32: both tables have distinct entries in each row (R8), and the length of the input plays no part. -/
theorem trellisRoundTrip : Obligations.TrellisRoundTrip := by
  unfold Obligations.TrellisRoundTrip
  exact ⟨fun xs _ => trellisDecode_trellisEncode (nextCodeword_injective trellis12Rows_distinct) xs,
    fun xs _ => trellisDecode_trellisEncode (nextCodeword_injective trellis34Rows_distinct) xs⟩

end Sys2Proof.Trellis

/-!
PROOFS. The frame sync search (44 R338). A run of FEEDs that starts and ends in SEARCHING and is too short for a frame
sync and a NID never left SEARCHING, so the window holds its dibits, and after 24 of them nothing else.
-/

namespace Sys2Proof.SyncSearch

open Sys2Proof.Machine Sys2Proof.Safety Sys2Proof.Output

/-! ## Runs of FEEDs -/

/-- A FEED whose framer step is silent on faults answers OK with the event of that step (R320). -/
theorem feedEvents_cons {s t : State} {d : Dibit} {ev : Event} (hready : Ready s) (hstep : feedStep d s = .ok (t, ev))
    (ds : List Dibit) :
    feedEvents (d :: ds) s = (feedEvents ds (feedDone (t, ev))).map fun x => (ev :: x.1, x.2) := by
  have hfits : (d.setWidth 8).toNat < 2 ^ 2 := by
    rw [BitVec.toNat_setWidth_of_le (by decide)]; exact d.isLt
  have hfeed : exec (.feed (d.setWidth 8)) s = .next (feedDone (t, ev)) := by
    show execFeed (d.setWidth 8) s = _
    rw [execFeed, withOperand_run 2 _ s _ hready hfits, BitVec.setWidth_setWidth_of_le _ (by decide),
      BitVec.setWidth_eq, feedDibit, hstep]
  rw [feedEvents, hfeed]
  rfl

/-- A run of FEEDs goes on from the state that its first part leaves. -/
theorem feedEvents_append {ds : List Dibit} {s t : State} {es : List Event} (h : feedEvents ds s = some (es, t))
    (ds' : List Dibit) : feedEvents (ds ++ ds') s = (feedEvents ds' t).map fun x => (es ++ x.1, x.2) := by
  induction ds generalizing s es with
  | nil => cases h; simp
  | cons d ds ih =>
    rw [List.cons_append]
    rw [feedEvents] at h ⊢
    split at h
    · next u hu =>
      split at h
      · next r hr =>
        split at h
        · next hok =>
          obtain ⟨⟨es', t'⟩, hrun, heq⟩ := Option.map_eq_some_iff.mp h
          cases heq
          simp [hok, ih hrun, Function.comp_def]
        · cases h
      · cases h
    · cases h
    · cases h

/-! ## FEED in SEARCHING and in IDENTIFYING -/

/-- Before frame position 56 a FEED in IDENTIFYING appends its dibit (R325). -/
theorem feedStep_identifying_short {s : State} (d : Dibit) (hst : s.st = .identifying) (hlen : s.fbuf.length < 56) :
    feedStep d s = .ok ({ s with fbuf := s.fbuf ++ [d] }, .none) := by
  have hpos : s.fbuf.length + 1 ≠ 57 := by omega
  simp [feedStep_identifying d hst, identifyStep, hpos]

/-- A candidate frame stays in IDENTIFYING until its NID is whole (R325, R326). -/
theorem feedEvents_identifying {ds : List Dibit} {s t : State} {es : List Event} (hst : s.st = .identifying)
    (hlen : s.fbuf.length + ds.length < 57) (h : feedEvents ds s = some (es, t)) : t.st = .identifying := by
  induction ds generalizing s es with
  | nil => cases h; exact hst
  | cons d ds ih =>
    rw [List.length_cons] at hlen
    rw [feedEvents_cons (by simp [Ready, hst]) (feedStep_identifying_short d hst (by omega))] at h
    obtain ⟨x, hrun, heq⟩ := Option.map_eq_some_iff.mp h
    cases heq
    refine ih ?_ ?_ hrun
    · exact hst
    · show (s.fbuf ++ [d]).length + ds.length < 57
      rw [List.length_append, List.length_singleton]
      omega

/-- A run from SEARCHING to SEARCHING that is too short for a sync and a NID shifts every dibit into the window
(R321): had one of its FEEDs correlated, it would end in IDENTIFYING. -/
theorem window_of_feedEvents_searching {ds : List Dibit} {s t : State} {es : List Event} (hst : s.st = .searching)
    (hlen : ds.length < 34) (h : feedEvents ds s = some (es, t)) (ht : t.st = .searching) :
    t.window = ds.foldl shiftWindow s.window := by
  induction ds generalizing s es with
  | nil => cases h; rfl
  | cons d ds ih =>
    rw [List.length_cons] at hlen
    have hready : Ready s := by simp [Ready, hst]
    obtain ⟨-, hstep⟩ | ⟨-, hstep⟩ := searchStep_cases d s
    · rw [feedEvents_cons hready ((feedStep_searching d hst).trans (congrArg _ hstep))] at h
      obtain ⟨x, hrun, heq⟩ := Option.map_eq_some_iff.mp h
      cases heq
      have hframe : (windowDibits (shiftWindow s.window d)).length + ds.length < 57 := by
        rw [windowDibits_length]; omega
      have hident := feedEvents_identifying rfl hframe hrun
      exact absurd (ht.symm.trans hident) (by decide)
    · rw [feedEvents_cons hready ((feedStep_searching d hst).trans (congrArg _ hstep))] at h
      obtain ⟨x, hrun, heq⟩ := Option.map_eq_some_iff.mp h
      cases heq
      exact ih (by exact hst) (by omega) hrun

/-- A FEED in SEARCHING has event SYNC exactly when the shifted window correlates (R322, R324). -/
theorem searchStep_event_eq_sync_iff (d : Dibit) (s : State) :
    (searchStep d s).2 = .sync ↔ correlates (shiftWindow s.window d) = true := by
  obtain ⟨hcorr, hstep⟩ | ⟨hcorr, hstep⟩ := searchStep_cases d s <;> simp [hcorr, hstep]

/-! ## The window as a word -/

theorem int_append (a b : Bits) : int (a ++ b) = 2 ^ b.length * int a + int b := by
  induction b using List.reverseRecOn with
  | nil => simp [int]
  | append_singleton b x ih =>
    rw [← List.append_assoc, int_snoc, int_snoc, ih, List.length_append, List.length_singleton, Nat.pow_succ]
    ring

@[simp] theorem int_bitsOf {n : Nat} (v : BitVec n) : int (bitsOf v) = v.toNat := int_bits _ _ v.isLt

/-- A shift moves the window up by one dibit and puts the new one below (R321). -/
theorem shiftWindow_ofNat (n : Nat) (d : Dibit) :
    shiftWindow (BitVec.ofNat 48 n) d = BitVec.ofNat 48 (4 * n + d.toNat) := by
  have hdisjoint : BitVec.ofNat 48 n <<< 2 &&& d.setWidth 48 = 0#48 := by
    refine BitVec.eq_of_getLsbD_eq fun i hi => ?_
    rcases Nat.lt_or_ge i 2 with hlow | hhigh
    · simp [hlow]
    · simp [BitVec.getLsbD_of_ge d i hhigh]
  rw [shiftWindow, ← BitVec.add_eq_or_of_and_eq_zero _ _ hdisjoint]
  apply BitVec.eq_of_toNat_eq
  simp [Nat.shiftLeft_eq]
  omega

/-- The dibits shifted in stand below what the window held, the last one lowest (R321). -/
theorem foldl_shiftWindow (ds : List Dibit) (n : Nat) :
    ds.foldl shiftWindow (BitVec.ofNat 48 n) = BitVec.ofNat 48 (2 ^ (2 * ds.length) * n + int (symbolBits ds)) := by
  induction ds generalizing n with
  | nil => simp [int]
  | cons d ds ih =>
    rw [List.foldl_cons, shiftWindow_ofNat, ih, symbolBits_cons, int_append, int_bitsOf, symbolBits_length,
      List.length_cons, Nat.mul_succ, Nat.pow_add]
    congr 1
    ring

/-- After 24 shifts nothing is left of the window before them. -/
theorem foldl_shiftWindow_full {ds : List Dibit} (hlen : ds.length = 24) (w : BitVec 48) :
    ds.foldl shiftWindow w = wordAt (symbolBits ds) 0 48 := by
  have hbits : (symbolBits ds).length = 48 := by rw [symbolBits_length, hlen]
  calc ds.foldl shiftWindow w
      = ds.foldl shiftWindow (BitVec.ofNat 48 w.toNat) := by rw [BitVec.ofNat_toNat, BitVec.setWidth_eq]
    _ = BitVec.ofNat 48 (2 ^ 48 * w.toNat + int (symbolBits ds)) := by rw [foldl_shiftWindow, hlen]
    _ = BitVec.ofNat 48 (int (symbolBits ds)) := BitVec.eq_of_toNat_eq (by simp)
    _ = wordAt (symbolBits ds) 0 48 := by rw [wordAt, List.drop_zero, List.take_of_length_le hbits.le]

/-- A window correlates when it differs from FS in at most 3 bits (R102). -/
theorem correlates_iff (w : BitVec 48) : correlates w = true ↔ differences w 0x5575F5FF77FF ≤ 3 := by
  have hdist : dist w frameSync = differences w 0x5575F5FF77FF := dist_eq w frameSync
  rw [correlates, decide_eq_true_iff, hdist, syncThreshold, Nat.lt_succ_iff]

/-- One FEED in SEARCHING reports the event of the search step (R320, R321). -/
theorem feedEvents_searching_singleton {s t : State} {d : Dibit} {ev : Event} (hst : s.st = .searching)
    (hstep : searchStep d s = (t, ev)) : feedEvents [d] s = some ([ev], feedDone (t, ev)) := by
  have hready : Ready s := by simp [Ready, hst]
  rw [feedEvents_cons hready ((feedStep_searching d hst).trans (congrArg _ hstep))]
  rfl

/-- Settles O40: the first 23 FEEDs only shifted the window, so at the 24th it holds exactly the 24 dibits. -/
theorem syncToleratesThreeErrors : Obligations.SyncToleratesThreeErrors := by
  unfold Obligations.SyncToleratesThreeErrors
  intro s s' ds d es hst hlen hrun hst'
  have hlen' : (ds ++ [d]).length = 24 := by rw [List.length_append, hlen, List.length_singleton]
  have hwindow : shiftWindow s'.window d = wordAt (symbolBits (ds ++ [d])) 0 48 := by
    rw [window_of_feedEvents_searching hst (by omega) hrun hst', ← foldl_shiftWindow_full hlen' s.window,
      List.foldl_concat]
  have hsync := searchStep_event_eq_sync_iff d s'
  obtain ⟨⟨t, ev⟩, hstep⟩ : ∃ x, searchStep d s' = x := ⟨_, rfl⟩
  rw [hstep, hwindow, correlates_iff] at hsync
  refine ⟨ev, feedDone (t, ev), ?_, hsync⟩
  rw [feedEvents_append hrun, feedEvents_searching_singleton hst' hstep]
  rfl

end Sys2Proof.SyncSearch

/-!
PROOFS. Fault entry (60 R406, R410). What an instruction can do to the state is said once; that a fault writes nothing
but `st` and `fault_cause` is read off it, and so is that an invariant which rules the fault assertions out is kept.
-/

namespace Sys2Proof.Faults

open Sys2Proof.Machine Sys2Proof.Safety Sys2Proof.Output

/-! ## What an instruction can do -/

/-- What an instruction that answers can do to the state. -/
inductive Effect (s : State) : State → Prop
  | responds (r : Response) : Effect s (respond r s)
  | faults (c : FaultCause) (hc : c = .illegalOpcode ∨ c = .operandRange) : Effect s (raiseFault c s)
  | resets (r : Response) : Effect s (respond r (resetBlock s))
  | feeds (d : Dibit) (hs : Ready s) : Effect s (feedDibit s d)
  | dispatches (duid : BitVec 4) (nac : BitVec 12) (cw : BitVec 64) (errs : Nat) (hs : Ready s)
      (hpos : s.fbuf.length = 57) : Effect s (feedDone (dispatchNid duid nac cw errs s))

/-- The checks before a command answer FAULTED or raise OPERAND_RANGE, or the command runs (R413). -/
theorem effect_withOperand {n W : Nat} {v : BitVec n} {s : State} {run : BitVec W → State}
    (h : Ready s → ∀ m, Effect s (run m)) : Effect s (withOperand W v s run) := by
  obtain ⟨-, heq⟩ | ⟨-, -, heq⟩ | ⟨hs, -, heq⟩ := withOperand_cases W v s run <;> rw [heq]
  · exact .responds faultedResponse
  · exact .faults .operandRange (.inr rfl)
  · exact h hs _

theorem effect_pureCommand {n W : Nat} {v : BitVec n} {f : BitVec W → Response} {s t : State}
    (h : pureCommand W v f s = .next t) : Effect s t := by
  obtain ⟨r, rfl⟩ | rfl := pureCommand_frame W v f s t h
  · exact .responds r
  · exact .faults .operandRange (.inr rfl)

theorem effect_illegalOpcode {s t : State} (h : illegalOpcode s = .next t) : Effect s t := by
  obtain rfl : unlessFaulted s (raiseFault .illegalOpcode s) = t := Host.Outcome.next.inj h
  by_cases hs : s.st = .faulted
  · rw [unlessFaulted_faulted s _ hs]
    exact .responds faultedResponse
  · rw [unlessFaulted_ready s _ hs]
    exact .faults .illegalOpcode (.inl rfl)

theorem effect_duidRow {duid : BitVec 4} {nac : BitVec 12} {errs : Nat} {s t : State}
    (h : duidRow duid nac errs s = .next t) : Effect s t := by
  rw [duidRow] at h
  split at h
  · next hat =>
    cases h
    exact .dispatches duid nac _ errs (by simp [Ready, hat.1]) hat.2
  · cases h

/-! ## Computations that answer -/

/-- The computation raises no fault, and what it answers meets `P`. -/
def Answers {α : Type} (x : Except FaultCause α) (P : α → Prop) : Prop := ∃ a, x = .ok a ∧ P a

theorem answers_ok {α : Type} {a : α} {P : α → Prop} (h : P a) : Answers (.ok a) P := ⟨a, rfl, h⟩

theorem Answers.bind {α β : Type} {x : Except FaultCause α} {P : α → Prop} {f : α → Except FaultCause β} {Q : β → Prop}
    (hx : Answers x P) (hf : ∀ a, P a → Answers (f a) Q) : Answers (x >>= f) Q := by
  obtain ⟨a, rfl, ha⟩ := hx
  exact hf a ha

theorem Answers.map {α β : Type} {x : Except FaultCause α} {P : α → Prop} {f : α → β} {Q : β → Prop}
    (hx : Answers x P) (hf : ∀ a, P a → Q (f a)) : Answers (x.map f) Q := by
  obtain ⟨a, rfl, ha⟩ := hx
  exact answers_ok (hf a ha)

theorem Answers.mono {α : Type} {x : Except FaultCause α} {P Q : α → Prop} (hx : Answers x P) (h : ∀ a, P a → Q a) :
    Answers x Q := by
  obtain ⟨a, rfl, ha⟩ := hx
  exact answers_ok (h a ha)

/-- EXTRACT in range (R65). -/
theorem answers_extract {s : Bits} {a b : Nat} (hab : a ≤ b) (hb : b ≤ s.length) :
    Answers (extract s a b) fun _ => True := ⟨_, extract_eq_ok hab hb, trivial⟩

/-- SCATTER over a span in range keeps the length (R67). -/
theorem answers_scatter_span {s : Bits} {a n v : Nat} (h : a + n ≤ s.length) :
    Answers (scatter s (span a n) v) fun s' => s'.length = s.length :=
  ⟨_, scatter_eq_ok fun _ hi => (mem_span.mp hi).2.trans_le h, setBits_length ..⟩

/-! ## The interleaver commands raise nothing -/

theorem mem_ilvPositions_lt {i : Nat} (h : i ∈ ilvPositions) : i < 196 := by
  obtain ⟨p, hp, hi⟩ := List.mem_flatMap.mp h
  have hp : p < 49 := List.mem_range.mp (Parameters.blockIlv_perm.mem_iff.mp hp)
  have hi := mem_span.mp hi
  omega

theorem answers_deinterleaveBits (t : BitVec 196) : Answers (deinterleaveBits (bitsOf t)) fun _ => True :=
  ⟨_, gather_eq_ok fun _ hi => (bitsOf_length t).symm ▸ mem_ilvPositions_lt hi, trivial⟩

theorem answers_interleaveBits (u : BitVec 196) : Answers (interleaveBits u) fun _ => True :=
  ⟨_, scatter_eq_ok fun _ hi => by rw [List.length_replicate]; exact mem_ilvPositions_lt hi, trivial⟩

theorem effect_execBilv {v : BitVec 200} {s t : State} (h : execBilv v s = .next t) : Effect s t := by
  obtain rfl := Host.Outcome.next.inj h
  refine effect_withOperand fun _ u => ?_
  obtain ⟨x, hx, -⟩ := answers_interleaveBits u
  rw [hx]
  exact .responds _

theorem effect_execBdilv {v : BitVec 200} {s t : State} (h : execBdilv v s = .next t) : Effect s t := by
  obtain rfl := Host.Outcome.next.inj h
  refine effect_withOperand fun _ u => ?_
  obtain ⟨x, hx, -⟩ := answers_deinterleaveBits u
  rw [hx]
  exact .responds _

/-! ## Every instruction -/

/-- What each instruction can do, whatever the state. -/
theorem exec_effect {i : Instr} {s t : State} (h : exec i s = .next t) : Effect s t := by
  cases i with
  | feed v => exact Host.Outcome.next.inj h ▸ effect_withOperand fun hs d => .feeds d hs
  | reset => exact Host.Outcome.next.inj h ▸ .resets (okResponse (0 : BitVec 1))
  | rdstat => exact Host.Outcome.next.inj h ▸ .responds (okResponse (statusWord s))
  | bilv v => exact effect_execBilv h
  | bdilv v => exact effect_execBdilv h
  | illegal00 | illegal06 | illegal08 | illegal16 | illegal1C | illegal26 | illegal28 | illegal36 | illegal38
  | illegal46 | illegal48 | illegal50 | illegal60 | illegal80 => exact effect_illegalOpcode h
  | duid0Hdu | duid1Unrecognized | duid2Unrecognized | duid3Tdu | duid4Unrecognized | duid5Ldu1 | duid6Unrecognized
  | duid7Pdu | duid8Unrecognized | duid9Pdu | duidALdu2 | duidBUnrecognized | duidCPdu | duidDUnrecognized
  | duidEUnrecognized | duidFTdulc => exact effect_duidRow h
  | _ => exact effect_pureCommand h

/-! ## A framer step that completes raises nothing -/

/-- Not in FAULTED, and the fault cause as in `s`. -/
structure NoFault (s t : State) : Prop where
  ready : Ready t
  faultCause : t.faultCause = s.faultCause

theorem noFault_searchStep (d : Dibit) {s : State} (hs : Ready s) : NoFault s (searchStep d s).1 := by
  obtain ⟨-, heq⟩ | ⟨-, heq⟩ := searchStep_cases d s <;> rw [heq]
  · exact ⟨nofun, rfl⟩
  · exact ⟨hs, rfl⟩

theorem noFault_dispatchNid (duid : BitVec 4) (nac : BitVec 12) (cw : BitVec 64) (errs : Nat) (s : State) :
    NoFault s (dispatchNid duid nac cw errs s).1 := by
  obtain ⟨v, -, heq⟩ | ⟨-, heq⟩ := dispatchNid_cases duid nac cw errs s <;> rw [heq] <;> exact ⟨nofun, rfl⟩

theorem noFault_nidStep {s : State} {r : State × Event} (h : nidStep s = .ok r) : NoFault s r.1 := by
  cases hnid : frameNid s.fbuf with
  | error c => rw [nidStep, hnid] at h; cases h
  | ok nid =>
    rw [nidStep_eq hnid] at h
    obtain rfl := Except.ok.inj h
    cases nidValidate nid with
    | ok i c n => exact noFault_dispatchNid _ _ c n s
    | fail => exact ⟨nofun, rfl⟩

theorem noFault_identifyStep {d : Dibit} {s : State} {r : State × Event} (hs : Ready s)
    (h : identifyStep d s = .ok r) : NoFault s r.1 := by
  rw [identifyStep_eq] at h
  split at h
  · obtain ⟨hready, hcause⟩ := noFault_nidStep h
    exact ⟨hready, hcause⟩
  · cases h
    exact ⟨hs, rfl⟩

theorem noFault_readStep {d : Dibit} {s : State} {r : State × Event} (hs : Ready s) (h : readStep d s = .ok r) :
    NoFault s r.1 := by
  cases hunit : s.unit with
  | none => simp only [readStep, hunit] at h; cases h
  | some u =>
    cases hext : extend d s.fbuf u with
    | error c => simp only [readStep, hunit, hext] at h; cases h
    | ok fu =>
      rw [readStep_eq hunit hext] at h
      split at h
      · obtain ⟨x, heq⟩ | ⟨c, heq⟩ := completeUnit_cases fu.1 fu.2 s <;> rw [heq] at h <;> cases h
        exact ⟨nofun, rfl⟩
      · cases h
        exact ⟨hs, rfl⟩

/-- A framer step that completes does not enter FAULTED and records no fault (R320, R334). -/
theorem noFault_feedStep {d : Dibit} {s : State} {r : State × Event} (hs : Ready s) (h : feedStep d s = .ok r) :
    NoFault s r.1 := by
  cases hst : s.st with
  | searching =>
    rw [feedStep_searching d hst] at h
    cases h
    exact noFault_searchStep d hs
  | identifying => exact noFault_identifyStep hs (feedStep_identifying d hst ▸ h)
  | reading => exact noFault_readStep hs (feedStep_reading d hst ▸ h)
  | faulted => exact absurd hst hs

/-! ## Fault entry -/

/-- Settles O15: of what an instruction can do, only a fault and a FEED whose framer step faults end in FAULTED, and
both write only the fault onto the state before. -/
theorem faultEntryIsPrecise : Obligations.FaultEntryIsPrecise := by
  unfold Obligations.FaultEntryIsPrecise
  intro i s t h hs ht
  cases exec_effect h with
  | responds r => exact absurd ht hs
  | faults c => exact ⟨c, rfl⟩
  | resets r => exact absurd ht nofun
  | feeds d =>
    rw [feedDibit] at ht ⊢
    cases hstep : feedStep d s with
    | error c => exact ⟨c, rfl⟩
    | ok r => rw [hstep] at ht; exact absurd ht (noFault_feedStep hs hstep).ready
  | dispatches duid nac cw errs => exact absurd ht (noFault_dispatchNid duid nac cw errs s).ready

/-! ## PDU blocks -/

/-- A block of 196 bits comes out decoded or failed, and raises nothing (R286). -/
theorem answers_decodeBlock (rate : Rate) (t : BitVec 196) : Answers (decodeBlock rate t) fun _ => True := by
  refine (answers_deinterleaveBits t).bind fun u _ => ?_
  cases decodeAtRate rate (unpack 4 49 (BitVec.ofNat 196 u)) with
  | ok os c n => exact (answers_interleaveBits (pack 196 c)).bind fun _ _ => answers_ok trivial
  | fail => exact answers_ok trivial

/-- A unit that can be read on, and decoded when it is complete: it accumulates, and the frame of `pos` dibits holds
every block that a PDU has decoded (R262, R286). -/
structure Readable (pos : Nat) (u : DataUnit) : Prop where
  life : u.life = .accumulating
  blocks : u.variant = .pdu → 56 + 98 * u.blocks.length ≤ ndata pos

/-- `pduStep` decodes a block only when the frame holds all of it (R286). -/
theorem answers_pduStep {f : List Dibit} {u : DataUnit} (hlife : u.life = .accumulating)
    (hblocks : 56 + 98 * u.blocks.length ≤ ndata f.length) : Answers (pduStep f u) (Readable f.length) := by
  by_cases hskip : isStatus (f.length - 1) = true ∨ ndata f.length ≠ 56 + 98 * (u.blocks.length + 1)
  · rw [pduStep_skip hskip]
    exact answers_ok ⟨hlife, fun _ => hblocks⟩
  · obtain ⟨hstatus, hend⟩ := not_or.mp hskip
    have hend : ndata f.length = 56 + 98 * (u.blocks.length + 1) := not_not.mp hend
    rw [pduStep, if_neg hstatus, if_neg (not_not.mpr hend)]
    refine Answers.bind (answers_extract ?_ ?_) fun t _ => ?_
    · simp only [bodyStart, blockBits]; omega
    · rw [dataBits_length, hend]; simp only [bodyStart, blockBits]; omega
    · refine Answers.bind (answers_decodeBlock _ _) fun blk _ => answers_ok ⟨hlife, fun _ => ?_⟩
      simp [hend]

/-- A readable unit is extended, and stays readable (R263). -/
theorem answers_extend (d : Dibit) {f : List Dibit} {u : DataUnit} (hu : Readable f.length u) :
    Answers (extend d f u) fun fu => fu.1 = f ++ [d] ∧ Readable (f ++ [d]).length fu.2 := by
  obtain ⟨hlife, hblocks⟩ := hu
  by_cases hpdu : u.variant = .pdu
  · rw [extend_pdu hlife hpdu]
    have hmono : ndata f.length ≤ ndata (f ++ [d]).length := by
      rw [List.length_append, List.length_singleton, ndata_succ]; omega
    exact (answers_pduStep hlife ((hblocks hpdu).trans hmono)).map fun u' hu' => ⟨rfl, hu'⟩
  · exact ⟨_, extend_fixed hlife hpdu, rfl, hlife, fun h => absurd h hpdu⟩

/-! ## The decode pipelines on long enough data bits -/

/-- Codewords at spans in range decode and keep the number of data bits (R269, R302). -/
theorem answers_innerDecodeAll {k n w m : Nat} (dec : BitVec n → Decoded (BitVec k) (BitVec n)) {start : Nat → Nat}
    {acc : InnerAcc} (h : ∀ i < m, start i + w ≤ acc.dbits.length) :
    Answers (innerDecodeAll dec ((List.range m).map fun i => span (start i) w) acc)
      fun r => r.2.dbits.length = acc.dbits.length := by
  have hrange : ∀ idx ∈ (List.range m).map fun i => span (start i) w, ∀ i ∈ idx, i < acc.dbits.length := by
    intro idx hidx i hi
    obtain ⟨j, hj, rfl⟩ := List.mem_map.mp hidx
    exact (mem_span.mp hi).2.trans_le (h j (List.mem_range.mp hj))
  obtain ⟨ms, acc', heq, -, hlen⟩ := innerDecodeAll_ok dec _ acc hrange
  exact ⟨_, heq, hlen⟩

theorem answers_decodeHdu {b : Bits} (h : 760 ≤ b.length) : Answers (decodeHdu b) fun _ => True := by
  have hinner : ∀ i < 36, bodyStart + 18 * i + 18 ≤ b.length := by simp only [bodyStart]; omega
  refine Answers.bind (answers_innerDecodeAll dec18 hinner) fun r _ => ?_
  iterate 5 refine Answers.bind (answers_extract (by decide) (by simp)) fun _ _ => ?_
  exact answers_ok trivial

theorem answers_decodeTdulc {b : Bits} (h : 400 ≤ b.length) : Answers (decodeTdulc b) fun _ => True := by
  have hinner : ∀ i < 12, bodyStart + 24 * i + 24 ≤ b.length := by simp only [bodyStart]; omega
  exact Answers.bind (answers_innerDecodeAll dec24 hinner) fun _ _ => answers_ok trivial

theorem answers_decodeLsd {b : Bits} {a : Nat} (h : a + 16 ≤ b.length) :
    Answers (decodeLsd b a) fun r => r.2.length = b.length := by
  refine Answers.bind (answers_extract (Nat.le_add_right a 16) h) fun r _ => ?_
  cases decC16 (BitVec.ofNat 16 r) with
  | ok m c n => exact Answers.bind (answers_scatter_span h) fun _ hlen => answers_ok hlen
  | fail => exact answers_ok rfl

theorem answers_decodeLsdAll {l : List Nat} {b : Bits} (h : ∀ a ∈ l, a + 16 ≤ b.length) :
    Answers (decodeLsdAll l b) fun r => r.2.length = b.length := by
  induction l generalizing b with
  | nil => exact answers_ok rfl
  | cons a l ih =>
    obtain ⟨ha, hl⟩ := List.forall_mem_cons.mp h
    refine Answers.bind (answers_decodeLsd ha) fun r hr => ?_
    exact Answers.bind (ih (hr.symm ▸ hl)) fun r' hr' => answers_ok (hr'.trans hr)

/-- Voice slots in range, whatever the order of `VOICE_PERM` (R361). -/
theorem answers_voiceEntries {l : List Nat} {b : Bits} (h : ∀ slot ∈ l, slot + 144 ≤ b.length) :
    Answers (voiceEntries b l) fun _ => True := by
  induction l with
  | nil => exact answers_ok trivial
  | cons slot l ih =>
    obtain ⟨hslot, hl⟩ := List.forall_mem_cons.mp h
    have hrange : ∀ i ∈ voicePositions slot, i < b.length := by
      intro i hi
      obtain ⟨j, hj, rfl⟩ := List.mem_map.mp hi
      have hj : j < 144 := List.mem_range.mp (Parameters.voicePerm_perm.mem_iff.mp hj)
      omega
    have hraw : Answers (voiceRaw b slot) fun _ => True :=
      Answers.map ⟨_, gather_eq_ok hrange, trivial⟩ fun _ h => h
    exact hraw.bind fun _ _ => (ih hl).bind fun _ _ => answers_ok trivial

/-! The embedded field, the LSD and the voice slots of an LDU lie in its 1680 data bits (R278, R281, R360). -/

theorem lduCodeword_le : ∀ j < 24, lduSegments.getD (j / 4) 0 + 10 * (j % 4) + 10 ≤ 1680 := by decide

theorem answers_lduLsd {b : Bits} (h : 1680 ≤ b.length) :
    Answers (decodeLsdAll lsdStarts b) fun r => r.2.length = b.length :=
  have hrange : ∀ a ∈ lsdStarts, a + 16 ≤ 1680 := by decide
  answers_decodeLsdAll fun a ha => (hrange a ha).trans h

theorem answers_lduVoice {b : Bits} (h : 1680 ≤ b.length) : Answers (voiceEntries b voiceSlots) fun _ => True :=
  have hrange : ∀ slot ∈ voiceSlots, slot + 144 ≤ 1680 := by decide
  answers_voiceEntries fun slot hslot => (hrange slot hslot).trans h

theorem answers_decodeLdu1 {b : Bits} (h : 1680 ≤ b.length) : Answers (decodeLdu1 b) fun _ => True := by
  refine Answers.bind (answers_innerDecodeAll decH10 fun j hj => (lduCodeword_le j hj).trans h) fun r hr => ?_
  refine Answers.bind (answers_lduLsd (hr ▸ h)) fun r' hr' => ?_
  exact Answers.bind (answers_lduVoice (hr' ▸ hr ▸ h)) fun _ _ => answers_ok trivial

theorem answers_decodeLdu2 {b : Bits} (h : 1680 ≤ b.length) : Answers (decodeLdu2 b) fun _ => True := by
  refine Answers.bind (answers_innerDecodeAll decH10 fun j hj => (lduCodeword_le j hj).trans h) fun r hr => ?_
  iterate 3 refine Answers.bind (answers_extract (by decide) (by simp)) fun _ _ => ?_
  refine Answers.bind (answers_lduLsd (hr ▸ h)) fun r' hr' => ?_
  exact Answers.bind (answers_lduVoice (hr' ▸ hr ▸ h)) fun _ _ => answers_ok trivial

/-- The write-back of blocks that the data bits hold (R290). -/
theorem answers_writeBlocks {k : Nat} {bs : List Block} {b : Bits} (h : 112 + 196 * (k + bs.length) ≤ b.length) :
    Answers (writeBlocks k bs b) fun _ => True := by
  induction bs generalizing k b with
  | nil => exact answers_ok trivial
  | cons blk bs ih =>
    rw [List.length_cons] at h
    rw [writeBlocks]
    split
    · have hspan : bodyStart + blockBits * k + blockBits ≤ b.length := by simp only [bodyStart, blockBits]; omega
      refine Answers.bind (answers_scatter_span hspan) fun b' hb' => ih ?_
      omega
    · exact ih (by omega)

/-! ## Completion -/

/-- The data bits that the pipeline of a variant reads, with the NID before them (R266, R289). -/
def bitsNeeded (u : DataUnit) : Nat :=
  match u.variant with
  | .tdu => 112
  | .hdu => 760
  | .ldu1 | .ldu2 => 1680
  | .tdulc => 400
  | .pdu => 112 + 196 * u.blocks.length

theorem answers_decodeVariant {u : DataUnit} {b : Bits} (h : bitsNeeded u ≤ b.length) :
    Answers (decodeVariant u b) fun _ => True := by
  rw [decodeVariant]
  rw [bitsNeeded] at h
  cases hv : u.variant <;> rw [hv] at h
  case tdu => exact answers_ok trivial
  case hdu => exact answers_decodeHdu h
  case ldu1 => exact answers_decodeLdu1 h
  case ldu2 => exact answers_decodeLdu2 h
  case tdulc => exact answers_decodeTdulc h
  case pdu => exact Answers.bind (answers_writeBlocks (by simpa using h)) fun _ _ => answers_ok trivial

/-- Every frame holds a NID (R302). -/
theorem le_bitsNeeded (u : DataUnit) : 112 ≤ bitsNeeded u := by
  rw [bitsNeeded]
  cases u.variant <;> simp

/-- A complete frame holds what its pipeline reads (R264, R266). -/
theorem bitsNeeded_le_of_isComplete {f : List Dibit} {u : DataUnit} (hu : Readable f.length u)
    (h : isComplete f.length u = true) : bitsNeeded u ≤ (dataBits f).length := by
  rw [dataBits_length]
  rw [isComplete] at h
  rw [bitsNeeded]
  cases hv : u.variant <;> simp only [hv, fixedSize, beq_iff_eq] at h ⊢
  case pdu => have hblocks := hu.blocks hv; omega
  all_goals rw [h]; decide

/-- A complete unit is decoded and emitted, and the framer is back in SEARCHING (R331). -/
theorem answers_completeUnit {f : List Dibit} {u : DataUnit} (hu : Readable f.length u)
    (h : isComplete f.length u = true) (s : State) :
    Answers (completeUnit f u s) fun r => r.1.st = .searching := by
  have hbits := bitsNeeded_le_of_isComplete hu h
  have hdecode : Answers (decodeUnit f { u with life := .complete }) fun _ => True := by
    rw [decodeUnit, if_neg (not_not.mpr rfl)]
    refine Answers.bind (answers_scatter_span ((le_bitsNeeded u).trans hbits)) fun b hb => ?_
    exact Answers.bind (answers_decodeVariant (hb ▸ hbits)) fun _ _ => answers_ok trivial
  exact hdecode.bind fun _ _ => answers_ok rfl

/-! ## FEED raises none of the assertions -/

/-- A state in READING reads a readable unit (R35, R39). -/
def ReadsUnit (s : State) : Prop := s.st = .reading → ∃ u, s.unit = some u ∧ Readable s.fbuf.length u

/-- A unit is created at frame position 57, before the first block of a PDU ends (R261, R327). -/
theorem readsUnit_dispatchNid (duid : BitVec 4) (nac : BitVec 12) (cw : BitVec 64) (errs : Nat) {s : State}
    (hpos : s.fbuf.length = 57) : ReadsUnit (dispatchNid duid nac cw errs s).1 := by
  obtain ⟨v, -, heq⟩ | ⟨-, heq⟩ := dispatchNid_cases duid nac cw errs s <;> rw [heq]
  · exact fun _ => ⟨_, rfl, rfl, fun _ => by rw [hpos]; exact Nat.le_refl 56⟩
  · exact nofun

theorem readsUnit_searchStep (d : Dibit) {s : State} (hs : s.st = .searching) : ReadsUnit (searchStep d s).1 := by
  obtain ⟨-, heq⟩ | ⟨-, heq⟩ := searchStep_cases d s <;> rw [heq]
  · exact nofun
  · exact fun h => absurd (hs.symm.trans h) (by decide)

/-- The NID step always has a whole NID to read (R325, R326). -/
theorem answers_nidStep {s : State} (hpos : s.fbuf.length = 57) : Answers (nidStep s) fun r => ReadsUnit r.1 := by
  rw [nidStep_eq (frameNid_eq_ok hpos.ge)]
  refine answers_ok ?_
  split
  · exact readsUnit_dispatchNid _ _ _ _ hpos
  · exact nofun

theorem answers_identifyStep (d : Dibit) {s : State} (hs : s.st = .identifying) :
    Answers (identifyStep d s) fun r => ReadsUnit r.1 := by
  rw [identifyStep_eq]
  split
  · next hpos => exact answers_nidStep (by simpa using hpos)
  · exact answers_ok fun h => absurd (hs.symm.trans h) (by decide)

theorem answers_readStep (d : Dibit) {s : State} {u : DataUnit} (hunit : s.unit = some u)
    (hu : Readable s.fbuf.length u) : Answers (readStep d s) fun r => ReadsUnit r.1 := by
  obtain ⟨⟨f, u'⟩, hext, rfl, hu'⟩ := answers_extend d hu
  rw [readStep_eq hunit hext]
  split
  · next hcomplete =>
    exact (answers_completeUnit hu' hcomplete s).mono fun r hr h => absurd (hr.symm.trans h) (by decide)
  · exact answers_ok fun _ => ⟨u', rfl, hu'⟩

/-- No framer step raises a fault on a state that reads a readable unit, and it leaves such a state (R334, R406). -/
theorem answers_feedStep (d : Dibit) {s : State} (hs : Ready s) (hreads : ReadsUnit s) :
    Answers (feedStep d s) fun r => ReadsUnit r.1 := by
  cases hst : s.st with
  | searching => exact ⟨_, feedStep_searching d hst, readsUnit_searchStep d hst⟩
  | identifying => exact feedStep_identifying d hst ▸ answers_identifyStep d hst
  | reading =>
    obtain ⟨u, hunit, hu⟩ := hreads hst
    exact feedStep_reading d hst ▸ answers_readStep d hunit hu
  | faulted => exact absurd hst hs

/-! ## Runs from power-on -/

/-- No assertion fault is recorded, and none is about to be raised (R406). -/
structure AssertionFree (s : State) : Prop where
  faultCause : s.faultCause = 0 ∨ s.faultCause = 1 ∨ s.faultCause = 2
  reads : ReadsUnit s

/-- Whatever an instruction does, it keeps `AssertionFree`. -/
theorem AssertionFree.effect {s t : State} (h : AssertionFree s) (heff : Effect s t) : AssertionFree t := by
  obtain ⟨hcause, hreads⟩ := h
  cases heff with
  | responds r => exact ⟨hcause, hreads⟩
  | faults c hc => exact ⟨.inr (hc.imp (congrArg FaultCause.code) (congrArg FaultCause.code)), nofun⟩
  | resets r => exact ⟨.inl rfl, nofun⟩
  | feeds d hs =>
    obtain ⟨r, hstep, hr⟩ := answers_feedStep d hs hreads
    rw [feedDibit, hstep]
    exact ⟨(noFault_feedStep hs hstep).faultCause ▸ hcause, hr⟩
  | dispatches duid nac cw errs hs hpos =>
    exact ⟨(noFault_dispatchNid duid nac cw errs s).faultCause ▸ hcause, readsUnit_dispatchNid duid nac cw errs hpos⟩

theorem withOperandOctets_isDuidRow {n : Nat} {l rest : List Octet} {make : BitVec (8 * n) → Instr} {i : Instr}
    (hmake : ∀ v, (make v).isDuidRow = false) (h : withOperandOctets n l make = .ok (i, rest)) :
    i.isDuidRow = false := by
  rw [withOperandOctets] at h
  split at h <;> cases h
  exact hmake _

theorem decodeIllegal_isDuidRow (op : Octet) : (decodeIllegal op).isDuidRow = false := by
  unfold decodeIllegal
  repeat refine iteInduction (motive := fun i => Instr.isDuidRow i = false) (fun _ => rfl) fun _ => ?_
  rfl

/-- The command decoder never gives a DUID row (R131, R132). -/
theorem isDuidRow_of_decode_eq_ok {l rest : List Octet} {i : Instr} (h : decode l = .ok (i, rest)) :
    i.isDuidRow = false := by
  cases l with
  | nil => cases h
  | cons op l =>
    rw [decode] at h
    split at h
    case h_2 | h_3 => cases h; rfl
    case h_34 => cases h; exact decodeIllegal_isDuidRow op
    all_goals exact withOperandOctets_isDuidRow (fun _ => rfl) h

/-- A command always answers a next state: the block's faults are states (R405). -/
theorem exec_eq_next {i : Instr} (hi : i.isDuidRow = false) (s : State) : ∃ t, exec i s = .next t := by
  cases i with
  | duid0Hdu | duid1Unrecognized | duid2Unrecognized | duid3Tdu | duid4Unrecognized | duid5Ldu1 | duid6Unrecognized
  | duid7Pdu | duid8Unrecognized | duid9Pdu | duidALdu2 | duidBUnrecognized | duidCPdu | duidDUnrecognized
  | duidEUnrecognized | duidFTdulc => cases hi
  | _ => exact ⟨_, rfl⟩

theorem AssertionFree.step {s : State} (h : AssertionFree s) : ∃ t, step s = .next t ∧ AssertionFree t := by
  rw [Machine.step]
  split
  · next i rest hdecode =>
    obtain ⟨t, ht⟩ := exec_eq_next (isDuidRow_of_decode_eq_ok hdecode) { s with port := rest }
    have hport : AssertionFree { s with port := rest } := ⟨h.faultCause, h.reads⟩
    exact ⟨t, ht, hport.effect (exec_effect ht)⟩
  · exact ⟨s, rfl, h⟩

theorem AssertionFree.run {s : State} (h : AssertionFree s) (k : Nat) :
    ∃ t, core.run k s = .next t ∧ AssertionFree t := by
  induction k generalizing s with
  | zero => exact ⟨s, rfl, h⟩
  | succ k ih =>
    obtain ⟨u, hstep, hu⟩ := h.step
    obtain ⟨t, hrun, ht⟩ := ih hu
    have hcore : core.step s = .next u := hstep
    exact ⟨t, by simpa only [Host.Core.run, hcore] using hrun, ht⟩

/-- Settles O10: power-on is free of assertion faults whatever waits on the port, and every step keeps that. -/
theorem assertionFaultsUnreachable : Obligations.AssertionFaultsUnreachable := by
  unfold Obligations.AssertionFaultsUnreachable
  intro octets k
  have hstart : AssertionFree { State.reset with port := octets } := ⟨.inl rfl, nofun⟩
  obtain ⟨t, hrun, ht⟩ := hstart.run k
  exact ⟨t, hrun, ht.faultCause⟩

end Sys2Proof.Faults

/-!
PROOFS. Power-on and hazards (70 R440, R453). A pure command writes the response alone, and no framer step reads it: a
FEED after the command overwrites the response and is the FEED without it.
-/

namespace Sys2Proof.Hazards

open Sys2Proof.Machine Sys2Proof.Safety

/-- Settles O7, one element of R45 after another. -/
theorem powerOnState : Obligations.PowerOnState := by
  unfold Obligations.PowerOnState
  exact ⟨rfl, rfl, rfl, rfl, rfl, rfl, rfl⟩

/-! ## Commands that write the response alone -/

/-- When the operand fits, the checks before a command refuse it or run it (R413). -/
theorem withOperand_responds {n W : Nat} {v : BitVec n} {s : State} {run : BitVec W → State} (hv : v.toNat < 2 ^ W)
    (hrun : ∀ m, ∃ r, run m = respond r s) : ∃ r, withOperand W v s run = respond r s := by
  by_cases hst : s.st = .faulted
  · exact ⟨faultedResponse, withOperand_faulted W v s run hst⟩
  · obtain ⟨r, hr⟩ := hrun (v.setWidth W)
    exact ⟨r, (withOperand_run W v s run hst hv).trans hr⟩

theorem pureCommand_responds {n W : Nat} {v : BitVec n} (f : BitVec W → Response) (s : State) (hv : v.toNat < 2 ^ W) :
    ∃ r, pureCommand W v f s = .next (respond r s) := by
  obtain ⟨r, hr⟩ := withOperand_responds (s := s) hv fun m => ⟨f m, rfl⟩
  exact ⟨r, congrArg Host.Outcome.next hr⟩

/-- BILV and BDILV, whose work raises nothing on a block of 196 bits (R242, R243). -/
theorem interleaver_responds {α : Type} {n k W : Nat} {v : BitVec n} {work : BitVec W → Except FaultCause α}
    (f : α → BitVec k) (s : State) (hv : v.toNat < 2 ^ W) (hwork : ∀ m, Faults.Answers (work m) fun _ => True) :
    ∃ r, Host.Outcome.next (withOperand W v s fun m => finishOrFault s ((work m).map fun x => okResponse (f x))) =
      (.next (respond r s) : Host.Outcome State Fault Refusal) := by
  have hrun m : ∃ r, finishOrFault s ((work m).map fun x => okResponse (f x)) = respond r s := by
    obtain ⟨x, hx, -⟩ := hwork m
    exact ⟨okResponse (f x), by rw [hx]; rfl⟩
  obtain ⟨r, hr⟩ := withOperand_responds hv hrun
  exact ⟨r, congrArg Host.Outcome.next hr⟩

/-- A command of the table with an operand that fits, FEED (0x01) and RESET (0x02) apart, writes the response alone
(R41, R383). -/
theorem exec_responds {i : Instr} {op : Octet} (hwf : i.wf = true) (hrow : i.isDuidRow = false)
    (hop : (encode i).head? = some op) (hmem : op ∈ opcodeTable.map Prod.fst) (hfeed : op ≠ 0x01) (hreset : op ≠ 0x02)
    (s : State) : ∃ r, exec i s = .next (respond r s) := by
  cases i with
  | feed v => exact absurd (Option.some.inj hop).symm hfeed
  | reset => exact absurd (Option.some.inj hop).symm hreset
  | rdstat => exact ⟨okResponse (statusWord s), rfl⟩
  | syncchk v | nidchk v | g24d v | b63e v | b64e v | b64d v | c16e v | c16d v | rs2412e v | rs2412d v | rs2416e v
  | rs2416d v | rs3620e v | rs3620d v | t12e v | t34e v => exact pureCommand_responds _ s v.isLt
  | g23e v | g23d v | g24e v | g18e v | g18d v | b63d v | h15e v | h15d v | h10e v | h10d v | t12d v | t34d v =>
    exact pureCommand_responds _ s (of_decide_eq_true hwf)
  | bilv v => exact interleaver_responds _ s (of_decide_eq_true hwf) Faults.answers_interleaveBits
  | bdilv v => exact interleaver_responds _ s (of_decide_eq_true hwf) Faults.answers_deinterleaveBits
  | illegal00 => cases hop; exact absurd hmem (by decide)
  | illegal06 x | illegal08 x | illegal16 x | illegal1C x | illegal26 x | illegal28 x | illegal36 x | illegal38 x
  | illegal46 x | illegal48 x | illegal50 x | illegal60 x | illegal80 x =>
    cases hop
    exact absurd hmem (by clear * - x; decide +revert)
  | duid0Hdu | duid1Unrecognized | duid2Unrecognized | duid3Tdu | duid4Unrecognized | duid5Ldu1 | duid6Unrecognized
  | duid7Pdu | duid8Unrecognized | duid9Pdu | duidALdu2 | duidBUnrecognized | duidCPdu | duidDUnrecognized
  | duidEUnrecognized | duidFTdulc => cases hrow

/-! ## The framer never reads the response -/

/-- A framer step's result, with the response `r` in its state. -/
def stepResponded (r : Response) (x : State × Event) : State × Event := (respond r x.1, x.2)

theorem searchStep_respond (d : Dibit) (r : Response) (s : State) :
    searchStep d (respond r s) = stepResponded r (searchStep d s) := by
  cases hcorr : correlates (shiftWindow s.window d) <;> simp [searchStep, stepResponded, respond, hcorr]

theorem dispatchNid_respond (duid : BitVec 4) (nac : BitVec 12) (cw : BitVec 64) (errs : Nat) (r : Response)
    (s : State) :
    dispatchNid duid nac cw errs (respond r s) = stepResponded r (dispatchNid duid nac cw errs s) := by
  cases hvar : variantOf duid <;> simp only [dispatchNid, hvar] <;> rfl

theorem nidStep_respond (r : Response) (s : State) :
    nidStep (respond r s) = (nidStep s).map (stepResponded r) := by
  cases hnid : frameNid s.fbuf with
  | error c =>
    have hnid' : frameNid (respond r s).fbuf = .error c := hnid
    rw [nidStep, nidStep, hnid, hnid']
    rfl
  | ok nid =>
    rw [nidStep_eq hnid, nidStep_eq (s := respond r s) hnid]
    cases nidValidate nid with
    | ok i c n => exact congrArg _ (dispatchNid_respond ..)
    | fail => rfl

theorem identifyStep_respond (d : Dibit) (r : Response) (s : State) :
    identifyStep d (respond r s) = (identifyStep d s).map (stepResponded r) := by
  rw [Output.identifyStep_eq, Output.identifyStep_eq]
  by_cases hpos : s.fbuf.length + 1 = 57
  · rw [if_pos hpos, if_pos (show (respond r s).fbuf.length + 1 = 57 from hpos)]
    exact nidStep_respond r { s with fbuf := s.fbuf ++ [d] }
  · rw [if_neg hpos, if_neg (show ¬ (respond r s).fbuf.length + 1 = 57 from hpos)]
    rfl

theorem completeUnit_respond (f : List Dibit) (u : DataUnit) (r : Response) (s : State) :
    completeUnit f u (respond r s) = (completeUnit f u s).map (stepResponded r) := by
  rw [completeUnit, completeUnit]
  cases decodeUnit f { u with life := .complete } <;> rfl

theorem readStep_respond (d : Dibit) (r : Response) (s : State) :
    readStep d (respond r s) = (readStep d s).map (stepResponded r) := by
  cases hunit : s.unit with
  | none => simp only [readStep, respond, hunit]; rfl
  | some u =>
    cases hext : extend d s.fbuf u with
    | error c => simp only [readStep, respond, hunit, hext]; rfl
    | ok fu =>
      obtain ⟨f, u'⟩ := fu
      rw [readStep_eq hunit hext, readStep_eq (s := respond r s) hunit hext]
      cases isComplete f.length u' with
      | true => exact completeUnit_respond f u' r s
      | false => rfl

theorem feedStep_respond (d : Dibit) (r : Response) (s : State) :
    feedStep d (respond r s) = (feedStep d s).map (stepResponded r) := by
  cases hst : s.st with
  | searching =>
    rw [Output.feedStep_searching d hst, Output.feedStep_searching (s := respond r s) d hst]
    exact congrArg _ (searchStep_respond d r s)
  | identifying =>
    rw [Output.feedStep_identifying d hst, Output.feedStep_identifying (s := respond r s) d hst]
    exact identifyStep_respond d r s
  | reading =>
    rw [Output.feedStep_reading d hst, Output.feedStep_reading (s := respond r s) d hst]
    exact readStep_respond d r s
  | faulted =>
    rw [Output.feedStep_faulted d hst, Output.feedStep_faulted (s := respond r s) d hst]
    rfl

/-- A FEED gives a response of its own whether its step completes or faults (R320, R410). -/
theorem feedDibit_respond (d : Dibit) (r : Response) (s : State) : feedDibit (respond r s) d = feedDibit s d := by
  rw [feedDibit, feedDibit, feedStep_respond]
  cases feedStep d s <;> rfl

theorem execFeed_respond (v : BitVec 8) (r : Response) (s : State) : execFeed v (respond r s) = execFeed v s := by
  have hfeed : feedDibit (respond r s) = feedDibit s := funext fun d => feedDibit_respond d r s
  rw [execFeed, execFeed, hfeed]
  rfl

/-- Settles O37: the command writes the response alone, and a FEED is the same whatever the response. -/
theorem pureCommandsLeaveFramerAlone : Obligations.PureCommandsLeaveFramerAlone := by
  unfold Obligations.PureCommandsLeaveFramerAlone
  intro i op s hwf hrow hop hmem hfeed hreset
  obtain ⟨r, hr⟩ := exec_responds hwf hrow hop hmem hfeed hreset s
  exact ⟨r, hr, fun v => execFeed_respond v r s⟩

end Sys2Proof.Hazards

/-!
PROOFS. The command words (30 R130 to R132): octets and the value they spell are the same thing, so the decoder and the
encoder undo each other; and what a step makes of the decoder's answer.
-/

namespace Sys2Proof.CommandWords

open Sys2Proof.Machine Sys2Proof.Safety

/-! ## Octets and values -/

/-- Folding octets into a number, from any start, is the start shifted up plus the number of the octets alone. -/
theorem foldl_octets (l : List Octet) (a : Nat) :
    l.foldl (fun acc o => 256 * acc + o.toNat) a =
      256 ^ l.length * a + l.foldl (fun acc o => 256 * acc + o.toNat) 0 := by
  induction l generalizing a with
  | nil => simp
  | cons o l ih =>
    rw [List.foldl_cons, List.foldl_cons, ih, ih (256 * 0 + o.toNat), List.length_cons, Nat.pow_succ]
    ring

theorem foldl_octets_lt (l : List Octet) : l.foldl (fun acc o => 256 * acc + o.toNat) 0 < 256 ^ l.length := by
  induction l with
  | nil => simp
  | cons o l ih =>
    have ho : o.toNat < 256 := o.isLt
    rw [List.foldl_cons, foldl_octets, List.length_cons, Nat.pow_succ]
    nlinarith

theorem valueOctets_succ (n : Nat) (v : BitVec (8 * (n + 1))) :
    valueOctets (n + 1) v = v.extractLsb' (8 * n) 8 :: valueOctets n (v.setWidth (8 * n)) := by
  rw [valueOctets, List.range_succ_eq_map, List.map_cons, List.map_map]
  refine congrArg₂ List.cons (by simp) (List.map_congr_left fun i hi => ?_)
  have hi : i < n := List.mem_range.mp hi
  refine BitVec.eq_of_getLsbD_eq fun j hj => ?_
  have hpos : n - (i + 1) = n - 1 - i := by omega
  have hlt : 8 * (n - 1 - i) + j < 8 * n := by omega
  simp [hpos, hlt, hj]

/-- The number that a value's octets spell is the value. -/
theorem foldl_valueOctets (n : Nat) (v : BitVec (8 * n)) :
    (valueOctets n v).foldl (fun acc o => 256 * acc + o.toNat) 0 = v.toNat := by
  induction n with
  | zero => simp [valueOctets, BitVec.toNat_of_zero_length]
  | succ n ih =>
    have hsplit : v.toNat = 256 ^ n * (v.toNat / 256 ^ n) + v.toNat % 256 ^ n := (Nat.div_add_mod _ _).symm
    have htop : v.toNat / 256 ^ n < 256 := by
      refine Nat.div_lt_of_lt_mul ?_
      have := v.isLt
      rwa [Nat.pow_mul, show 2 ^ 8 = 256 from rfl, Nat.pow_succ] at this
    rw [valueOctets_succ, List.foldl_cons, foldl_octets, ih, valueOctets_length]
    simp only [BitVec.extractLsb'_toNat, BitVec.toNat_setWidth, Nat.shiftRight_eq_div_pow, Nat.pow_mul,
      show 2 ^ 8 = 256 from rfl, Nat.mod_eq_of_lt htop, Nat.mul_zero, Nat.zero_add]
    exact hsplit.symm

theorem octetsValue_valueOctets (n : Nat) (v : BitVec (8 * n)) : octetsValue n (valueOctets n v) = v := by
  rw [octetsValue, foldl_valueOctets, BitVec.ofNat_toNat, BitVec.setWidth_eq]

/-- The octets of the value that octets spell are those octets. -/
theorem valueOctets_octetsValue (l : List Octet) : valueOctets l.length (octetsValue l.length l) = l := by
  induction l with
  | nil => rfl
  | cons o l ih =>
    have htail := foldl_octets_lt l
    have ho : o.toNat < 256 := o.isLt
    rw [List.length_cons, valueOctets_succ]
    have hnum : (o :: l).foldl (fun acc o => 256 * acc + o.toNat) 0 =
        256 ^ l.length * o.toNat + l.foldl (fun acc o => 256 * acc + o.toNat) 0 := by
      rw [List.foldl_cons, foldl_octets, Nat.mul_zero, Nat.zero_add]
    have hlow : (octetsValue (l.length + 1) (o :: l)).setWidth (8 * l.length) = octetsValue l.length l := by
      apply BitVec.eq_of_toNat_eq
      rw [octetsValue, octetsValue, hnum, BitVec.toNat_setWidth, BitVec.toNat_ofNat, BitVec.toNat_ofNat,
        Nat.mod_mod_of_dvd _ (Nat.pow_dvd_pow 2 (by omega)), Nat.pow_mul, show 2 ^ 8 = 256 from rfl,
        Nat.mul_add_mod]
    have hhigh : (octetsValue (l.length + 1) (o :: l)).extractLsb' (8 * l.length) 8 = o := by
      apply BitVec.eq_of_toNat_eq
      have hlt : 256 ^ l.length * o.toNat + l.foldl (fun acc o => 256 * acc + o.toNat) 0 < 256 ^ (l.length + 1) := by
        rw [Nat.pow_succ]; nlinarith
      rw [octetsValue, hnum, BitVec.extractLsb'_toNat, BitVec.toNat_ofNat, Nat.shiftRight_eq_div_pow, Nat.pow_mul,
        Nat.pow_mul, show 2 ^ 8 = 256 from rfl, Nat.mod_eq_of_lt hlt, Nat.mul_add_div (by positivity),
        Nat.div_eq_of_lt htail, Nat.add_zero, Nat.mod_eq_of_lt ho]
    rw [hhigh, hlow, ih]

/-! ## Command words with an operand -/

/-- The operand octets of a value are read back, and what follows them is left (R130). -/
theorem withOperandOctets_valueOctets (n : Nat) (v : BitVec (8 * n)) (rest : List Octet)
    (make : BitVec (8 * n) → Instr) :
    withOperandOctets n (valueOctets n v ++ rest) make = .ok (make v, rest) := by
  have hlen := valueOctets_length n v
  rw [withOperandOctets, if_pos (by rw [List.length_append]; omega), List.take_left' hlen, List.drop_left' hlen,
    octetsValue_valueOctets]

/-- What was read as an operand spells the octets that were taken (R130). -/
theorem withOperandOctets_eq_ok {n : Nat} {l rest : List Octet} {make : BitVec (8 * n) → Instr} {i : Instr}
    (h : withOperandOctets n l make = .ok (i, rest)) : ∃ v, i = make v ∧ valueOctets n v ++ rest = l := by
  rw [withOperandOctets] at h
  split at h
  · next hlen =>
    cases h
    refine ⟨_, rfl, ?_⟩
    have htake : (l.take n).length = n := List.length_take_of_le hlen
    have hoctets := valueOctets_octetsValue (l.take n)
    rw [htake] at hoctets
    rw [hoctets, List.take_append_drop]
  · cases h

/-! ## Illegal opcodes -/

/-- The octet of an opcode outside the command table is that of the row it selects (R132). -/
theorem encode_decodeIllegal : ∀ op : Octet, op ∉ opcodeTable.map Prod.fst → encode (decodeIllegal op) = [op] := by
  decide +kernel

/-- An octet outside the command table that selects a row decodes to it, and what follows it is left. -/
theorem decode_illegal {op : Octet} {i : Instr} (rest : List Octet)
    (h : op ∉ opcodeTable.map Prod.fst ∧ decodeIllegal op = i) : decode (op :: rest) = .ok (i, rest) := by
  rw [Opcodes.decode_cons_of_notMem_opcodeTable rest h.1, h.2]

/-! ## The decoder and the encoder -/

/-- Settles O2, row by row: a command's operand octets spell its operand, and an illegal opcode is in no row's way. -/
theorem decodeUndoesEncode : Obligations.DecodeUndoesEncode := by
  unfold Obligations.DecodeUndoesEncode
  intro i rest hi
  cases i with
  | reset | rdstat => rfl
  | feed v | g18e v | h10e v | c16e v => exact withOperandOctets_valueOctets 1 v rest _
  | g23e v | g24e v | b63e v | b64e v | h15e v | h15d v | h10d v | c16d v =>
    exact withOperandOctets_valueOctets 2 v rest _
  | g23d v | g24d v | g18d v => exact withOperandOctets_valueOctets 3 v rest _
  | syncchk v => exact withOperandOctets_valueOctets 6 v rest _
  | nidchk v | b63d v | b64d v => exact withOperandOctets_valueOctets 8 v rest _
  | rs2412e v => exact withOperandOctets_valueOctets 9 v rest _
  | rs2416e v | t12e v => exact withOperandOctets_valueOctets 12 v rest _
  | rs3620e v => exact withOperandOctets_valueOctets 15 v rest _
  | rs2412d v | rs2416d v | t34e v => exact withOperandOctets_valueOctets 18 v rest _
  | t12d v | t34d v | bilv v | bdilv v => exact withOperandOctets_valueOctets 25 v rest _
  | rs3620d v => exact withOperandOctets_valueOctets 27 v rest _
  | illegal00 => exact decode_illegal rest (by decide)
  | illegal06 x | illegal08 x | illegal16 x | illegal1C x | illegal26 x | illegal28 x | illegal36 x | illegal38 x
  | illegal46 x | illegal48 x | illegal50 x | illegal60 x | illegal80 x =>
    exact decode_illegal rest (by clear hi rest; decide +revert)
  | duid0Hdu | duid1Unrecognized | duid2Unrecognized | duid3Tdu | duid4Unrecognized | duid5Ldu1 | duid6Unrecognized
  | duid7Pdu | duid8Unrecognized | duid9Pdu | duidALdu2 | duidBUnrecognized | duidCPdu | duidDUnrecognized
  | duidEUnrecognized | duidFTdulc => cases hi

/-- An opcode of the table stands first in the encoding of what is read after it; any other opcode is the whole
encoding. -/
theorem encode_of_decode_cons {op : Octet} {l rest : List Octet} {i : Instr}
    (h : decode (op :: l) = .ok (i, rest)) : encode i ++ rest = op :: l := by
  have hrow : ∀ n, op.toNat = n → op = BitVec.ofNat 8 n := by
    rintro n rfl
    rw [BitVec.ofNat_toNat, BitVec.setWidth_eq]
  rw [decode] at h
  split at h
  case h_2 heq | h_3 heq => cases h; rw [hrow _ heq]; rfl
  case h_34 =>
    have hop : op ∉ opcodeTable.map Prod.fst := fun hmem => by fin_cases hmem <;> contradiction
    cases h
    rw [encode_decodeIllegal op hop]
    rfl
  all_goals
    next heq =>
      obtain ⟨v, rfl, hv⟩ := withOperandOctets_eq_ok h
      rw [hrow _ heq, ← hv]
      rfl

/-- Settles O3. -/
theorem encodeUndoesDecode : Obligations.EncodeUndoesDecode := by
  unfold Obligations.EncodeUndoesDecode
  intro l rest i h
  refine ⟨?_, Faults.isDuidRow_of_decode_eq_ok h⟩
  cases l with
  | nil => cases h
  | cons op l => exact encode_of_decode_cons h

/-- Settles O1, word by word. -/
theorem specWordsDecode : Obligations.SpecWordsDecode := by
  unfold Obligations.SpecWordsDecode
  exact ⟨rfl, rfl, rfl, rfl, rfl, rfl, rfl, by decide +kernel⟩

/-! ## The step -/

/-- Settles O5. -/
theorem stepRunsDecodedCommand : Obligations.StepRunsDecodedCommand := by
  unfold Obligations.StepRunsDecodedCommand
  exact ⟨fun _ _ _ h => Opcodes.step_of_decode_eq_ok h, fun s _ h => by rw [step, h]⟩

/-- Settles O6: the decoder gives commands only, and a command always answers a next state. -/
theorem stepAlwaysAnswersNext : Obligations.StepAlwaysAnswersNext := by
  unfold Obligations.StepAlwaysAnswersNext
  intro s
  obtain ⟨hrun, hidle⟩ := stepRunsDecodedCommand
  cases hdecode : decode s.port with
  | ok x => exact hrun s x.1 x.2 hdecode ▸ Faults.exec_eq_next (Faults.isDuidRow_of_decode_eq_ok hdecode) _
  | error e => exact ⟨s, hidle s e hdecode⟩

/-- Settles O8. -/
theorem powerOnMeetsInvariant : Obligations.PowerOnMeetsInvariant := by
  unfold Obligations.PowerOnMeetsInvariant
  exact ⟨rfl, rfl, rfl⟩

end Sys2Proof.CommandWords

/-!
PROOFS. The control commands and the faults (46, 60): what FAULTED refuses, what enters it and what leaves it, and the
fields of the status word.
-/

namespace Sys2Proof.Control

open Sys2Proof.Machine Sys2Proof.Safety

/-! ## FAULTED -/

theorem illegalOpcode_faulted {s : State} (h : s.st = .faulted) : illegalOpcode s = .next (answered s answerFaulted) :=
  congrArg Host.Outcome.next (unlessFaulted_faulted s _ h)

/-- In FAULTED every command but RESET and RDSTAT is refused, whatever its operand (R411). -/
theorem exec_faulted {i : Instr} {s : State} (h : s.st = .faulted) (hrow : i.isDuidRow = false) (hreset : i ≠ .reset)
    (hrdstat : i ≠ .rdstat) : exec i s = .next (answered s answerFaulted) := by
  cases i with
  | reset => exact absurd rfl hreset
  | rdstat => exact absurd rfl hrdstat
  | illegal00 | illegal06 | illegal08 | illegal16 | illegal1C | illegal26 | illegal28 | illegal36 | illegal38
  | illegal46 | illegal48 | illegal50 | illegal60 | illegal80 => exact illegalOpcode_faulted h
  | duid0Hdu | duid1Unrecognized | duid2Unrecognized | duid3Tdu | duid4Unrecognized | duid5Ldu1 | duid6Unrecognized
  | duid7Pdu | duid8Unrecognized | duid9Pdu | duidALdu2 | duidBUnrecognized | duidCPdu | duidDUnrecognized
  | duidEUnrecognized | duidFTdulc => cases hrow
  | _ => exact congrArg Host.Outcome.next (withOperand_faulted _ _ s _ h)

/-- Settles O17. -/
theorem resetGivesPowerOnState : Obligations.ResetGivesPowerOnState := by
  unfold Obligations.ResetGivesPowerOnState
  exact fun _ => ⟨rfl, rfl⟩

/-- Settles O11. -/
theorem faultedRefusesAllButResetAndStatus : Obligations.FaultedRefusesAllButResetAndStatus := by
  unfold Obligations.FaultedRefusesAllButResetAndStatus
  exact fun i s h hrow => ⟨exec_faulted h hrow, (resetGivesPowerOnState s).1, rfl⟩

/-- A DUID row is the dispatch inside the NID step, or stops (R325, R327). -/
theorem exec_duidRow {i : Instr} (hrow : i.isDuidRow = true) :
    ∃ duid nac errs, exec i = duidRow duid nac errs := by
  cases i with
  | duid0Hdu nac errs | duid1Unrecognized nac errs | duid2Unrecognized nac errs | duid3Tdu nac errs
  | duid4Unrecognized nac errs | duid5Ldu1 nac errs | duid6Unrecognized nac errs | duid7Pdu nac errs
  | duid8Unrecognized nac errs | duid9Pdu nac errs | duidALdu2 nac errs | duidBUnrecognized nac errs
  | duidCPdu nac errs | duidDUnrecognized nac errs | duidEUnrecognized nac errs | duidFTdulc nac errs =>
    exact ⟨_, nac, errs, rfl⟩
  | _ => cases hrow

/-- Settles O46. -/
theorem duidRowsStopElsewhere : Obligations.DuidRowsStopElsewhere := by
  unfold Obligations.DuidRowsStopElsewhere
  intro i s hrow hat
  obtain ⟨duid, nac, errs, heq⟩ := exec_duidRow hrow
  rw [heq]
  exact if_neg hat

/-- Settles O16: a DUID row stops there, RESET and RDSTAT are legal, and every other command is refused. -/
theorem onlyResetLeavesFaulted : Obligations.OnlyResetLeavesFaulted := by
  unfold Obligations.OnlyResetLeavesFaulted
  intro i s t hst h
  by_cases hrow : i.isDuidRow = true
  · have hat : ¬ (s.st = .identifying ∧ s.fbuf.length = 57) := fun hat => absurd (hst.symm.trans hat.1) (by decide)
    exact nomatch (duidRowsStopElsewhere i s hrow hat).symm.trans h
  by_cases hreset : i = .reset
  · subst hreset
    exact ⟨fun _ => ⟨rfl, (Host.Outcome.next.inj h).symm⟩, fun hne => absurd rfl hne⟩
  · obtain ⟨r, rfl⟩ : ∃ r, t = answered s r := by
      by_cases hrdstat : i = .rdstat
      · subst hrdstat
        exact ⟨_, (Host.Outcome.next.inj h).symm⟩
      · exact ⟨_, Host.Outcome.next.inj (h.symm.trans (exec_faulted hst (by simpa using hrow) hreset hrdstat))⟩
    exact ⟨fun hne => absurd hst hne, fun _ => rfl⟩

/-! ## Fault entry -/

theorem withOperand_overwide_eq {n W : Nat} {v : BitVec n} {s : State} {run : BitVec W → State} (hs : Ready s)
    (hv : fitsWidth W v = false) :
    Host.Outcome.next (withOperand W v s run) = (.next (faultEntered 2 s) : Host.Outcome State Fault Refusal) :=
  congrArg Host.Outcome.next (withOperand_overwide W v s run hs (Nat.not_lt.mp (of_decide_eq_false hv)))

/-- Settles O12: the rows whose operand can be over-wide are those with a check. -/
theorem overwideOperandFaults : Obligations.OverwideOperandFaults := by
  unfold Obligations.OverwideOperandFaults
  intro i s hwf hrow hs
  cases i with
  | feed v | g23e v | g23d v | g24e v | g18e v | g18d v | b63d v | h15e v | h15d v | h10e v | h10d v | t12d v | t34d v
  | bilv v | bdilv v => exact withOperand_overwide_eq hs hwf
  | duid0Hdu | duid1Unrecognized | duid2Unrecognized | duid3Tdu | duid4Unrecognized | duid5Ldu1 | duid6Unrecognized
  | duid7Pdu | duid8Unrecognized | duid9Pdu | duidALdu2 | duidBUnrecognized | duidCPdu | duidDUnrecognized
  | duidEUnrecognized | duidFTdulc => cases hrow
  | _ => cases hwf

/-- Settles O13: the fourteen rows have one meaning. -/
theorem illegalRowsFault : Obligations.IllegalRowsFault := by
  unfold Obligations.IllegalRowsFault
  intro s hs
  have hfault := Opcodes.illegalOpcode_eq_faultEntered hs
  exact ⟨hfault, fun _ => hfault, fun _ => hfault, fun _ => hfault, fun _ => hfault, fun _ => hfault, fun _ => hfault,
    fun _ => hfault, fun _ => hfault, fun _ => hfault, fun _ => hfault, fun _ => hfault, fun _ => hfault,
    fun _ => hfault⟩

/-! ## The status word -/

/-- The high part of a concatenation. -/
theorem extractLsb'_append_high {n m a k : Nat} (x : BitVec n) (y : BitVec m) :
    (x ++ y).extractLsb' (m + a) k = x.extractLsb' a k := by
  refine BitVec.eq_of_getLsbD_eq fun i hi => ?_
  simp [BitVec.getLsbD_append, hi, Nat.add_assoc]

/-- The low part of a concatenation. -/
theorem extractLsb'_append_low {n m : Nat} (x : BitVec n) (y : BitVec m) : (x ++ y).extractLsb' 0 m = y := by
  refine BitVec.eq_of_getLsbD_eq fun i hi => ?_
  simp [BitVec.getLsbD_append, hi]

theorem statusWord_unrec (s : State) : (statusWord s).extractLsb' 0 32 = s.unrec := extractLsb'_append_low _ _

theorem statusWord_pos (s : State) : (statusWord s).extractLsb' 32 16 = BitVec.ofNat 16 s.fbuf.length := by
  rw [statusWord, extractLsb'_append_high (a := 0), extractLsb'_append_low, pos_eq]

theorem statusWord_duid (s : State) : (statusWord s).extractLsb' 48 4 = unitDuid s := by
  rw [statusWord, extractLsb'_append_high (a := 16), extractLsb'_append_high (a := 0), extractLsb'_append_low]

theorem statusWord_ua (s : State) : (statusWord s).extractLsb' 52 1 = unitActive s := by
  rw [statusWord, extractLsb'_append_high (a := 20), extractLsb'_append_high (a := 4), extractLsb'_append_high (a := 0),
    extractLsb'_append_low]

theorem statusWord_zero (s : State) : (statusWord s).extractLsb' 53 3 = 0 := by
  rw [statusWord, extractLsb'_append_high (a := 21), extractLsb'_append_high (a := 5), extractLsb'_append_high (a := 1),
    extractLsb'_append_high (a := 0), extractLsb'_append_low]

theorem statusWord_cause (s : State) : (statusWord s).extractLsb' 56 6 = s.faultCause := by
  rw [statusWord, extractLsb'_append_high (a := 24), extractLsb'_append_high (a := 8), extractLsb'_append_high (a := 4),
    extractLsb'_append_high (a := 3), extractLsb'_append_high (a := 0), extractLsb'_append_low]

theorem statusWord_st (s : State) : (statusWord s).extractLsb' 62 2 = s.st.code := by
  rw [statusWord, extractLsb'_append_high (a := 30), extractLsb'_append_high (a := 14),
    extractLsb'_append_high (a := 10), extractLsb'_append_high (a := 9), extractLsb'_append_high (a := 6),
    extractLsb'_append_high (a := 0), BitVec.extractLsb'_eq_self]

/-- `UA` is set exactly when a unit is in flight (R382). -/
theorem statusWord_getLsbD_ua (s : State) : (statusWord s).getLsbD 52 = true ↔ s.unit ≠ none := by
  have hbit : (statusWord s).getLsbD 52 = (unitActive s).getLsbD 0 := by
    rw [← statusWord_ua]; simp
  rw [hbit, unitActive]
  cases s.unit <;> simp

/-- Settles O18, field by field. -/
theorem statusWordFields : Obligations.StatusWordFields := by
  unfold Obligations.StatusWordFields
  intro s
  refine ⟨statusWord s, rfl, statusWord_st s, statusWord_cause s, statusWord_zero s, statusWord_getLsbD_ua s, ?_, ?_,
    statusWord_pos s, statusWord_unrec s⟩
  · intro u hu
    rw [statusWord_duid, unitDuid, hu]
  · intro hu
    rw [statusWord_duid, unitDuid, hu]

end Sys2Proof.Control

/-!
PROOFS. The framer (44): what each FEED does to the state, said once as an inversion of the framer step; and from it the
invariant between commands (10 R39), the counter of rejected candidates (R36) and the writes of the window (R32).
-/

namespace Sys2Proof.FramerSteps

open Sys2Proof.Machine Sys2Proof.Safety Sys2Proof.Output Sys2Proof.Faults

/-! ## Data dibits -/

theorem dataDibitsFrom_eq_filter (p : Nat) (f : List Dibit) :
    dataDibitsFrom p f = ((f.zipIdx p).filter fun x => x.2 % 36 != 35).map Prod.fst := by
  induction f generalizing p with
  | nil => rfl
  | cons d f ih =>
    rw [dataDibitsFrom, List.zipIdx_cons, ih]
    by_cases hp : p % 36 = 35
    · rw [if_pos (Memory.isStatus_iff.mpr hp), List.filter_cons_of_neg (by simpa using hp)]
    · rw [if_neg (mt Memory.isStatus_iff.mp hp), List.filter_cons_of_pos (by simpa using hp), List.map_cons]

theorem bitsOf_dibit : ∀ d : Dibit, bitsOf d = [d.getLsbD 1, d.getLsbD 0] := by decide

/-- Settles O35. -/
theorem dataBitsSkipStatusPositions : Obligations.DataBitsSkipStatusPositions := by
  unfold Obligations.DataBitsSkipStatusPositions
  intro f
  refine ⟨dataDibitsFrom_eq_filter 0 f, ?_, ?_⟩
  · have hlen := dataDibitsFrom_length 0 f
    rw [Nat.zero_add] at hlen
    simpa [dataDibits, ndata, statusPeriod] using hlen
  · rw [dataBits, symbolBits, funext bitsOf_dibit]

/-! ## The total of a PDU -/

theorem pduTotalWith_cons (H : Block) (bs : List Block) (duid : BitVec 4) (headerOnly : Bool) :
    pduTotalWith headerOnly duid (H :: bs) =
      if H.status = .fail then some 1
      else if duid = 7 ∧ headerOnly = false then
        if ((H :: bs).getLast?.map (·.status) = some .fail) ∨
            ((H :: bs).getLast?.map (fun B => (B.octets.getD 0 0).getLsbD 7) = some true) ∨ bs.length = 2
        then some (bs.length + 1) else none
      else some (1 + (H.octets.getD 6 0).toNat % 128) := by
  have hmask (o : Octet) : (o &&& 0x7F).toNat = o.toNat % 128 := by
    rw [BitVec.toNat_and]
    exact Nat.and_two_pow_sub_one_eq_mod o.toNat 7
  obtain ⟨B, hB⟩ : ∃ B, (H :: bs).getLast? = some B := ⟨_, List.getLast?_eq_some_getLast (by simp)⟩
  simp only [pduTotalWith, hB, List.head?_cons, Block.octet, hmask, Option.map_some, Option.some.injEq,
    List.length_cons, show (3 : Nat) = 2 + 1 from rfl, Nat.add_right_cancel_iff]

/-- Settles O54: the bounds are read off the count's equation. -/
theorem pduTotalFollowsBlocks : Obligations.PduTotalFollowsBlocks := by
  unfold Obligations.PduTotalFollowsBlocks
  refine ⟨pduTotalWith_cons, fun bs duid n h => ?_⟩
  cases bs with
  | nil => cases h
  | cons H bs =>
    rw [pduTotal, pduTotalWith_cons] at h
    split at h
    · cases h; exact .inl ⟨by decide, by decide⟩
    · split at h
      · next hduid =>
        split at h <;> cases h
        exact .inr ⟨hduid.1, rfl⟩
      · cases h; exact .inl ⟨by omega, by omega⟩

/-- The declared total of a PDU that is not complete stays above its blocks (R287, R289). -/
theorem length_lt_pduTotal {duid : BitVec 4} {blocks : List Block} {blk : Block} {n : Nat}
    (hlt : ∀ t, pduTotal duid blocks = some t → blocks.length < t) (h : pduTotal duid (blocks ++ [blk]) = some n)
    (hne : n ≠ (blocks ++ [blk]).length) : (blocks ++ [blk]).length < n ∧ n ≤ maxPduBlocks := by
  obtain ⟨hpos, hle⟩ | ⟨-, heq⟩ := pduTotalFollowsBlocks.2 _ _ _ h
  swap
  · exact absurd heq hne
  refine ⟨?_, hle⟩
  cases blocks with
  | nil => simp at hne ⊢; omega
  | cons H bs =>
    have hgt : (H :: bs).length < n := by
      rw [pduTotal, List.cons_append, pduTotalWith_cons] at h
      split at h
      · next hfail =>
        cases h
        exact hlt 1 (by rw [pduTotal, pduTotalWith_cons, if_pos hfail])
      · next hok =>
        split at h
        · split at h <;> cases h
          simp at hne
        · next hduid =>
          cases h
          exact hlt _ (by rw [pduTotal, pduTotalWith_cons, if_neg hok, if_neg hduid])
    simp at hne hgt ⊢
    omega

/-- A PDU of DUID 0x7 is complete at its third block at the latest (R287). -/
theorem pduTotal_seven_three {blocks : List Block} (hlen : blocks.length = 3)
    (h : pduTotal 0x7 blocks ≠ some 3) : pduTotal 0x7 blocks = some 1 := by
  obtain ⟨H, bs, rfl⟩ : ∃ H bs, blocks = H :: bs := List.exists_cons_of_length_pos (by omega)
  have hbs : bs.length = 2 := by simpa using hlen
  rw [pduTotal, pduTotalWith_cons] at h ⊢
  split
  · rfl
  · next hok => rw [if_neg hok, if_pos ⟨rfl, rfl⟩, if_pos (.inr (.inr hbs)), hbs] at h; exact absurd rfl h

/-! ## What a framer step does -/

/-- The NID validator reports at most 11 errors, and the codeword of what it found (R35, R166). -/
theorem nidValidate_ok {nid c : BitVec 64} {i : BitVec 16} {n : Nat} (h : nidValidate nid = .ok i c n) :
    c = enc64 i ∧ n ≤ 11 := by
  simp only [nidValidate, nidValidateWith, nidParityCheck] at h
  cases hdec : dec63 (nid.extractLsb' 1 63) with
  | fail => rw [hdec] at h; cases h
  | ok j e k =>
    rw [hdec] at h
    cases h
    obtain ⟨-, hle, -, rfl⟩ := bdd_ok hdec
    exact ⟨rfl, hle⟩

/-- What a framer step that completes does (R321 to R331). -/
inductive Stepped (d : Dibit) (s : State) : State × Event → Prop
  | shifts (hst : s.st = .searching) : Stepped d s ({ s with window := shiftWindow s.window d }, .none)
  | syncs (hst : s.st = .searching) :
      Stepped d s ({ s with window := shiftWindow s.window d, fbuf := windowDibits (shiftWindow s.window d),
                            st := .identifying }, .sync)
  | accumulates (hst : s.st = .identifying) (hpos : s.fbuf.length + 1 ≠ 57) :
      Stepped d s ({ s with fbuf := s.fbuf ++ [d] }, .none)
  | creates (v : Variant) (duid : BitVec 4) (nac : BitVec 12) (cw : BitVec 64) (n : Nat) (hst : s.st = .identifying)
      (hpos : s.fbuf.length + 1 = 57) (hv : variantOf duid = some v) (hn : n ≤ 11) :
      Stepped d s ({ s with fbuf := s.fbuf ++ [d], unit := some (newUnit v duid nac cw n), st := .reading }, .none)
  | rejects (ev : Event) (hev : ev = .nidFail ∨ ev = .unrecognized) : Stepped d s (rejectCandidate s, ev)
  | lengthens (u u' : DataUnit) (f : List Dibit) (hst : s.st = .reading) (hunit : s.unit = some u)
      (hext : extend d s.fbuf u = .ok (f, u')) (hcomplete : isComplete f.length u' = false) :
      Stepped d s ({ s with fbuf := f, unit := some u' }, .none)
  | completes (x : Record) : Stepped d s (enterSearching (emit x s), .emitted)

theorem stepped_searchStep {s : State} (d : Dibit) (hst : s.st = .searching) : Stepped d s (searchStep d s) := by
  obtain ⟨-, heq⟩ | ⟨-, heq⟩ := searchStep_cases d s <;> rw [heq]
  · exact .syncs hst
  · exact .shifts hst

theorem stepped_identifyStep {d : Dibit} {s : State} {r : State × Event} (hst : s.st = .identifying)
    (h : identifyStep d s = .ok r) : Stepped d s r := by
  rw [identifyStep_eq] at h
  split at h
  · next hpos =>
    rw [nidStep_eq (frameNid_eq_ok (f := s.fbuf ++ [d]) (by simp [hpos]))] at h
    cases hnid : nidValidate (BitVec.ofNat 64 (int (((dataBits (s.fbuf ++ [d])).drop 48).take 64))) with
    | fail =>
      simp only [hnid, Except.ok.injEq] at h
      exact h ▸ .rejects .nidFail (.inl rfl)
    | ok i c n =>
      simp only [hnid, Except.ok.injEq] at h
      obtain ⟨v, hv, heq⟩ | ⟨-, heq⟩ := dispatchNid_cases (i.extractLsb' 0 4) (i.extractLsb' 4 12) c n
        { s with fbuf := s.fbuf ++ [d] } <;> rw [heq] at h <;> subst h
      · exact .creates v _ _ c n hst hpos hv (nidValidate_ok hnid).2
      · exact .rejects .unrecognized (.inr rfl)
  · next hpos =>
    cases h
    exact .accumulates hst hpos

theorem stepped_readStep {d : Dibit} {s : State} {r : State × Event} (hst : s.st = .reading)
    (h : readStep d s = .ok r) : Stepped d s r := by
  cases hunit : s.unit with
  | none => simp only [readStep, hunit] at h; cases h
  | some u =>
    cases hext : extend d s.fbuf u with
    | error c => simp only [readStep, hunit, hext] at h; cases h
    | ok fu =>
      obtain ⟨f, u'⟩ := fu
      rw [readStep_eq hunit hext] at h
      split at h
      · obtain ⟨x, heq⟩ | ⟨c, heq⟩ := completeUnit_cases f u' s <;> rw [heq] at h <;> cases h
        exact .completes x
      · next hcomplete =>
        cases h
        exact .lengthens u u' f hst hunit hext (by simpa using hcomplete)

theorem stepped_feedStep {d : Dibit} {s : State} {r : State × Event} (hs : Ready s) (h : feedStep d s = .ok r) :
    Stepped d s r := by
  cases hst : s.st with
  | searching =>
    rw [feedStep_searching d hst] at h
    cases h
    exact stepped_searchStep d hst
  | identifying => exact stepped_identifyStep hst (feedStep_identifying d hst ▸ h)
  | reading => exact stepped_readStep hst (feedStep_reading d hst ▸ h)
  | faulted => exact absurd hst hs

/-! ## The invariant -/

/-- The three shapes of R39, by the framer state. -/
def Shaped (s : State) : Prop :=
  match s.st with
  | .searching => SearchingShape s
  | .identifying => IdentifyingShape s
  | .reading => ReadingShape s
  | .faulted => False

theorem inv_of_shaped {s : State} (hcause : s.faultCause = 0) (h : Shaped s) : Inv s := by
  rw [Shaped] at h
  rw [Safety.Inv]
  cases hst : s.st <;> rw [hst] at h
  case faulted => exact h.elim
  all_goals exact ⟨hcause, h⟩

theorem shaped_of_inv {s : State} (hs : Ready s) (h : Inv s) : s.faultCause = 0 ∧ Shaped s := by
  rw [Safety.Inv] at h
  rw [Shaped]
  cases hst : s.st <;> rw [hst] at h
  case faulted => exact absurd hst hs
  all_goals exact h

theorem shapes_of_shaped {s : State} (h : Shaped s) : SearchingShape s ∨ IdentifyingShape s ∨ ReadingShape s := by
  rw [Shaped] at h
  cases hst : s.st <;> rw [hst] at h
  case searching => exact .inl h
  case identifying => exact .inr (.inl h)
  case reading => exact .inr (.inr h)
  case faulted => exact h.elim

/-- A unit just created is in flight (R261, R327). -/
theorem unitInFlight_newUnit {v : Variant} {duid : BitVec 4} (hv : variantOf duid = some v) (nac : BitVec 12)
    (cw : BitVec 64) {n : Nat} (hn : n ≤ 11) : UnitInFlight 57 (newUnit v duid nac cw n) := by
  refine ⟨rfl, hv, hn, by decide, ?_⟩
  cases v with
  | pdu => exact ⟨Nat.le_refl 56, by show ndata 57 < 154; decide, rfl, nofun, fun _ => by show 0 < 3; decide⟩
  | _ => exact ⟨by decide, rfl, rfl⟩

theorem pduInFlight_of_skip {pos : Nat} {u : DataUnit} (h : PduInFlight pos u)
    (hskip : isStatus pos = true ∨ ndata (pos + 1) ≠ 56 + 98 * (u.blocks.length + 1)) : PduInFlight (pos + 1) u := by
  obtain ⟨hge, hlt, htotal, hbound, hseven⟩ := h
  refine ⟨?_, ?_, htotal, hbound, hseven⟩
  · rw [ndata_succ]; omega
  · rcases hskip with hstatus | hne
    · rw [ndata_succ, if_pos hstatus]; omega
    · have hsucc := ndata_succ pos
      split at hsucc <;> omega

/-- The PDU that a whole block was read into is still in flight when it is not complete (R286, R287, R289). -/
theorem pduInFlight_of_block {pos : Nat} {u : DataUnit} {blk : Block} (h : PduInFlight pos u)
    (hend : ndata (pos + 1) = 56 + 98 * (u.blocks.length + 1))
    (hne : pduTotal u.duid (u.blocks ++ [blk]) ≠ some (u.blocks ++ [blk]).length) :
    PduInFlight (pos + 1)
      { u with blocks := u.blocks ++ [blk], total := pduTotal u.duid (u.blocks ++ [blk]) } := by
  obtain ⟨-, -, htotal, hbound, hseven⟩ := h
  have hgt (t) (ht : pduTotal u.duid (u.blocks ++ [blk]) = some t) :=
    length_lt_pduTotal (fun t ht => (hbound t (htotal.trans ht)).1) ht fun heq => hne (heq ▸ ht)
  have hlen : (u.blocks ++ [blk]).length = u.blocks.length + 1 := by simp
  refine ⟨by simp [hend], by simp [hend], rfl, hgt, fun hduid => ?_⟩
  have hlt := hseven hduid
  by_contra hge
  have hthree : (u.blocks ++ [blk]).length = 3 := by
    have : ¬ (u.blocks ++ [blk]).length < 3 := hge
    omega
  have hone := pduTotal_seven_three hthree fun heq => hne (by rw [hduid, heq, hthree])
  exact absurd (hgt 1 (hduid ▸ hone)).1 (by omega)

/-- What `pduStep` answers: the unit itself away from the end of a block, or the unit with the block decoded there
(R286). -/
theorem pduStep_cases {f : List Dibit} {u u' : DataUnit} (h : pduStep f u = .ok u') :
    ((isStatus (f.length - 1) = true ∨ ndata f.length ≠ 56 + 98 * (u.blocks.length + 1)) ∧ u' = u) ∨
    (ndata f.length = 56 + 98 * (u.blocks.length + 1) ∧ ∃ blk,
      u' = { u with blocks := u.blocks ++ [blk], total := pduTotal u.duid (u.blocks ++ [blk]) }) := by
  by_cases hskip : isStatus (f.length - 1) = true ∨ ndata f.length ≠ 56 + 98 * (u.blocks.length + 1)
  · rw [pduStep_skip hskip] at h
    exact .inl ⟨hskip, (Except.ok.inj h).symm⟩
  · obtain ⟨hstatus, hend⟩ := not_or.mp hskip
    refine .inr ⟨not_not.mp hend, ?_⟩
    rw [pduStep, if_neg hstatus, if_neg hend] at h
    cases hbits : extract (dataBits f) (bodyStart + blockBits * u.blocks.length)
        (bodyStart + blockBits * (u.blocks.length + 1)) with
    | error c => rw [hbits] at h; cases h
    | ok t =>
      cases hblk : decodeBlock (nextRate u.duid u.blocks) (BitVec.ofNat 196 t) with
      | error c => simp only [hbits, bind, Except.bind, hblk] at h; cases h
      | ok blk =>
        simp only [hbits, bind, Except.bind, hblk] at h
        exact ⟨blk, (Except.ok.inj h).symm⟩

theorem unitInFlight_extend {d : Dibit} {f f' : List Dibit} {u u' : DataUnit} (h : UnitInFlight f.length u)
    (hext : extend d f u = .ok (f', u')) (hcomplete : isComplete f'.length u' = false) :
    UnitInFlight f'.length u' := by
  obtain ⟨hlife, hvariant, herrs, hpos, hshape⟩ := h
  by_cases hpdu : u.variant = .pdu
  · rw [extend_pdu hlife hpdu] at hext
    cases hstep : pduStep (f ++ [d]) u with
    | error c => rw [hstep] at hext; cases hext
    | ok w =>
      rw [hstep] at hext
      cases hext
      simp only [hpdu, fixedSize] at hshape
      obtain ⟨hskip, rfl⟩ | ⟨hend, blk, rfl⟩ := pduStep_cases hstep
      · refine ⟨hlife, hvariant, herrs, by simp; omega, ?_⟩
        simp only [hpdu, fixedSize]
        simpa using pduInFlight_of_skip hshape (by simpa using hskip)
      · refine ⟨hlife, hvariant, herrs, by simp; omega, ?_⟩
        have hne : pduTotal u.duid (u.blocks ++ [blk]) ≠ some (u.blocks ++ [blk]).length := by
          simpa [isComplete, hpdu, fixedSize] using hcomplete
        simp only [hpdu, fixedSize]
        rw [List.length_append, List.length_singleton] at hend ⊢
        exact hpdu ▸ pduInFlight_of_block hshape hend hne
  · rw [extend_fixed hlife hpdu] at hext
    cases hext
    obtain ⟨size, hsize⟩ : ∃ size, fixedSize u.variant = some size := by
      cases hv : u.variant
      case pdu => exact absurd hv hpdu
      all_goals exact ⟨_, rfl⟩
    simp only [hsize] at hshape
    obtain ⟨hlt, hblocks, htotal⟩ := hshape
    refine ⟨hlife, hvariant, herrs, by simp; omega, ?_⟩
    simp only [hsize]
    refine ⟨?_, hblocks, htotal⟩
    simp [isComplete, hsize] at hcomplete ⊢
    omega

/-- Every framer step keeps the shape of the framer state (R39). -/
theorem Stepped.shaped {d : Dibit} {s : State} {r : State × Event} (h : Stepped d s r) (hs : Shaped s) :
    Shaped r.1 := by
  rw [Shaped] at hs
  cases h with
  | shifts hst => simp only [hst] at hs; simp only [Shaped, hst]; exact hs
  | syncs hst =>
    simp only [hst] at hs
    exact ⟨hs.2, by simp, by simp⟩
  | accumulates hst hpos =>
    simp only [hst] at hs
    obtain ⟨hunit, hge, hle⟩ := hs
    simp only [Shaped, hst]
    refine ⟨hunit, ?_, ?_⟩ <;> simp at hge hle hpos ⊢ <;> omega
  | creates v duid nac cw n hst hpos hv hn =>
    refine ⟨_, rfl, ?_⟩
    have hlen : (s.fbuf ++ [d]).length = 57 := by simpa using hpos
    simp only [pos_eq, hlen]
    exact unitInFlight_newUnit hv nac cw hn
  | rejects ev => exact ⟨rfl, rfl⟩
  | lengthens u u' f hst hunit hext hcomplete =>
    simp only [hst] at hs
    obtain ⟨w, hw, hflight⟩ := hs
    obtain rfl : u = w := Option.some.inj (hunit.symm.trans hw)
    simp only [Shaped, hst]
    exact ⟨u', rfl, unitInFlight_extend hflight hext hcomplete⟩
  | completes x => exact ⟨rfl, rfl⟩

/-- A unit in flight can be read on, and decoded when it is complete (R39, R262). -/
theorem readsUnit_of_shaped {s : State} (h : Shaped s) : ReadsUnit s := by
  intro hst
  rw [Shaped, hst] at h
  obtain ⟨u, hunit, hlife, -, -, -, hshape⟩ := h
  refine ⟨u, hunit, hlife, fun hpdu => ?_⟩
  rw [hpdu] at hshape
  exact hshape.1

theorem shaped_respond {s : State} (r : Response) (h : Shaped s) : Shaped (respond r s) := h

/-! ## What an instruction does -/

/-- What an instruction that answers does to the state. -/
inductive Ran (i : Instr) (s : State) : State → Prop
  | responds (r : Response) (hev : r.event = .none) : Ran i s (respond r s)
  | faults (c : FaultCause) (hc : c = .illegalOpcode ∨ c = .operandRange) : Ran i s (raiseFault c s)
  | resets (hi : i = .reset) : Ran i s (respond (okResponse (0 : BitVec 1)) (resetBlock s))
  | feeds (v : BitVec 8) (hi : i = .feed v) (hs : Ready s) (hv : v.toNat < 4) :
      Ran i s (feedDibit s (v.setWidth 2))
  | dispatches (duid : BitVec 4) (nac : BitVec 12) (cw : BitVec 64) (errs : Nat) (hrow : i.isDuidRow = true)
      (hst : s.st = .identifying) : Ran i s (feedDone (dispatchNid duid nac cw errs s))

/-- The checks before a command refuse it, raise OPERAND_RANGE, or let it run (R413). -/
theorem ran_withOperand {i : Instr} {n W : Nat} {v : BitVec n} {s t : State} {run : BitVec W → State}
    (h : Host.Outcome.next (withOperand W v s run) = (.next t : Host.Outcome State Fault Refusal))
    (hrun : Ready s → v.toNat < 2 ^ W → Ran i s (run (v.setWidth W))) : Ran i s t := by
  cases h
  obtain ⟨-, heq⟩ | ⟨-, -, heq⟩ | ⟨hs, hv, heq⟩ := withOperand_cases W v s run <;> rw [heq]
  · exact .responds faultedResponse rfl
  · exact .faults .operandRange (.inr rfl)
  · exact hrun hs hv

theorem ran_illegalOpcode {i : Instr} {s t : State} (h : illegalOpcode s = .next t) : Ran i s t := by
  cases h
  by_cases hs : s.st = .faulted
  · rw [unlessFaulted_faulted s _ hs]
    exact .responds faultedResponse rfl
  · rw [unlessFaulted_ready s _ hs]
    exact .faults .illegalOpcode (.inl rfl)

theorem ran_duidRow {i : Instr} {s t : State} (hrow : i.isDuidRow = true) (h : exec i s = .next t) : Ran i s t := by
  obtain ⟨duid, nac, errs, heq⟩ := Control.exec_duidRow hrow
  rw [heq, duidRow] at h
  split at h
  · next hat =>
    cases h
    exact .dispatches duid nac _ errs hrow hat.1
  · cases h

/-- BILV and BDILV, whose work raises nothing (R242, R243). -/
theorem ran_finishOrFault {i : Instr} {s : State} {α : Type} {k : Nat} {x : Except FaultCause α} (f : α → BitVec k)
    (hx : Answers x fun _ => True) : Ran i s (finishOrFault s (x.map fun y => okResponse (f y))) := by
  obtain ⟨y, rfl, -⟩ := hx
  exact .responds (okResponse (f y)) rfl

theorem ran_of_exec {i : Instr} {s t : State} (h : exec i s = .next t) : Ran i s t := by
  cases i with
  | feed v => exact ran_withOperand h fun hs hv => .feeds v rfl hs hv
  | reset => cases h; exact .resets rfl
  | rdstat => cases h; exact .responds (okResponse (statusWord s)) rfl
  | syncchk v | g23e v | g24e v | g18e v | b63e v | b64e v | h15e v | h10e v | c16e v | rs2412e v | rs2416e v
  | rs3620e v | t12e v | t34e v => exact ran_withOperand h fun _ _ => .responds _ rfl
  | nidchk v | g23d v | g24d v | g18d v | b63d v | b64d v | h15d v | h10d v | c16d v | rs2412d v | rs2416d v
  | rs3620d v | t12d v | t34d v => exact ran_withOperand h fun _ _ => .responds _ (decodedResponse_event _)
  | bilv v => exact ran_withOperand h fun _ _ => ran_finishOrFault _ (answers_interleaveBits _)
  | bdilv v => exact ran_withOperand h fun _ _ => ran_finishOrFault _ (answers_deinterleaveBits _)
  | illegal00 | illegal06 | illegal08 | illegal16 | illegal1C | illegal26 | illegal28 | illegal36 | illegal38
  | illegal46 | illegal48 | illegal50 | illegal60 | illegal80 => exact ran_illegalOpcode h
  | duid0Hdu | duid1Unrecognized | duid2Unrecognized | duid3Tdu | duid4Unrecognized | duid5Ldu1 | duid6Unrecognized
  | duid7Pdu | duid8Unrecognized | duid9Pdu | duidALdu2 | duidBUnrecognized | duidCPdu | duidDUnrecognized
  | duidEUnrecognized | duidFTdulc => exact ran_duidRow rfl h

/-- A FEED takes its framer step, or the fault of it (R320, R410). -/
theorem feedDibit_cases {s : State} (d : Dibit) (hs : Ready s) :
    (∃ r, Stepped d s r ∧ feedDibit s d = feedDone r) ∨ (∃ c, feedDibit s d = raiseFault c s) := by
  rw [feedDibit]
  cases hstep : feedStep d s with
  | ok r => exact .inl ⟨r, stepped_feedStep hs hstep, rfl⟩
  | error c => exact .inr ⟨c, rfl⟩

/-! ## Every step keeps the invariant -/

/-- In a state that meets the invariant a FEED takes its framer step (R334, R406). -/
theorem feedDibit_of_inv {s : State} (d : Dibit) (hs : Ready s) (h : Safety.Inv s) :
    ∃ r, Stepped d s r ∧ NoFault s r.1 ∧ feedDibit s d = feedDone r := by
  obtain ⟨r, hstep, -⟩ := answers_feedStep d hs (readsUnit_of_shaped (shaped_of_inv hs h).2)
  exact ⟨r, stepped_feedStep hs hstep, noFault_feedStep hs hstep, by rw [feedDibit, hstep]⟩

/-- Whatever a command does keeps the invariant: a fault freezes one of the shapes, and a FEED keeps them. -/
theorem Ran.inv {i : Instr} {s t : State} (h : Ran i s t) (hrow : i.isDuidRow = false) (hs : Safety.Inv s) :
    Safety.Inv t := by
  cases h with
  | responds r => exact hs
  | faults c hc =>
    refine ⟨hc.imp (congrArg FaultCause.code) (congrArg FaultCause.code), ?_⟩
    by_cases hready : Ready s
    · have hshapes := shapes_of_shaped (shaped_of_inv hready hs).2
      exact hshapes
    · rw [Safety.Inv, not_not.mp hready] at hs
      exact hs.2
  | resets => exact ⟨rfl, rfl, rfl⟩
  | feeds v _ hready =>
    obtain ⟨hcause, hshaped⟩ := shaped_of_inv hready hs
    obtain ⟨r, hstep, hnofault, heq⟩ := feedDibit_of_inv (v.setWidth 2) hready hs
    rw [heq]
    exact inv_of_shaped (hnofault.faultCause.trans hcause) (shaped_respond _ (hstep.shaped hshaped))
  | dispatches _ _ _ _ hrow' => exact absurd (hrow.symm.trans hrow') (by decide)

/-- Settles O9: a step runs a command, never a DUID row, and the invariant does not speak of the port. -/
theorem stepKeepsInvariant : Obligations.StepKeepsInvariant := by
  unfold Obligations.StepKeepsInvariant
  intro s t hs h
  rw [step] at h
  split at h
  · next i rest hdecode =>
    have hport : Safety.Inv { s with port := rest } := hs
    exact (ran_of_exec h).inv (isDuidRow_of_decode_eq_ok hdecode) hport
  · cases h
    exact hs

/-! ## Completion of a FEED -/

theorem exec_feed_of_fits {v : BitVec 8} {s : State} (hv : v.toNat < 4) (hs : Ready s) :
    exec (.feed v) s = .next (feedDibit s (v.setWidth 2)) :=
  congrArg Host.Outcome.next (withOperand_run 2 v s _ hs hv)

theorem Stepped.port {d : Dibit} {s : State} {r : State × Event} (h : Stepped d s r) : r.1.port = s.port := by
  cases h <;> rfl

/-- Settles O38. -/
theorem feedCompletes : Obligations.FeedCompletes := by
  unfold Obligations.FeedCompletes
  intro v s hv hinv hs
  obtain ⟨r, hstep, hnofault, heq⟩ := feedDibit_of_inv (v.setWidth 2) hs hinv
  exact ⟨r.2, feedDone r, (exec_feed_of_fits hv hs).trans (congrArg _ heq), rfl, hnofault.ready, hnofault.faultCause,
    hstep.port⟩

/-! ## The counter of rejected candidates -/

/-- The response is there, and the counter goes by its event (R36). -/
def Counts (s t : State) : Prop :=
  ∃ r, t.resp = some r ∧
    t.unrec = if r.event = .nidFail ∨ r.event = .unrecognized then s.unrec + 1 else s.unrec

theorem counts_feedDone {s : State} {r : State × Event}
    (h : r.1.unrec = if r.2 = .nidFail ∨ r.2 = .unrecognized then s.unrec + 1 else s.unrec) :
    Counts s (feedDone r) := ⟨_, rfl, h⟩

theorem counts_of_stepped {d : Dibit} {s : State} {r : State × Event} (h : Stepped d s r) :
    Counts s (feedDone r) := by
  refine counts_feedDone ?_
  cases h with
  | rejects ev hev => exact (if_pos hev).symm
  | _ => rfl

theorem counts_raiseFault (c : FaultCause) (s : State) : Counts s (raiseFault c s) := ⟨faultedResponse, rfl, rfl⟩

theorem Ran.counts {i : Instr} {s t : State} (h : Ran i s t) (hi : i ≠ .reset) : Counts s t := by
  cases h with
  | responds r hev => exact ⟨r, rfl, by simp [hev]⟩
  | faults c => exact counts_raiseFault c s
  | resets hreset => exact absurd hreset hi
  | feeds v _ hs =>
    obtain ⟨r, hstep, heq⟩ | ⟨c, heq⟩ := feedDibit_cases (v.setWidth 2) hs <;> rw [heq]
    · exact counts_of_stepped hstep
    · exact counts_raiseFault c s
  | dispatches duid nac cw errs =>
    obtain ⟨v, -, heq⟩ | ⟨-, heq⟩ := dispatchNid_cases duid nac cw errs s <;> rw [heq] <;> exact counts_feedDone rfl

/-- Settles O58. -/
theorem unrecCountsRejectedCandidates : Obligations.UnrecCountsRejectedCandidates := by
  unfold Obligations.UnrecCountsRejectedCandidates
  refine ⟨rfl, fun s => ⟨statusWord s, rfl, Control.statusWord_unrec s⟩, fun i s t h => ⟨?_, (ran_of_exec h).counts⟩⟩
  rintro rfl
  cases h
  rfl

/-! ## The window -/

/-- A dibit of an octet that holds nothing else, shifted in (R321). -/
theorem shiftWindow_setWidth (w : BitVec 48) {v : BitVec 8} (hv : v.toNat < 4) :
    shiftWindow w (v.setWidth 2) = (w <<< 2) ||| v.setWidth 48 := by
  have hfits : (v.setWidth 2).setWidth 48 = v.setWidth 48 := by
    apply BitVec.eq_of_toNat_eq
    simp only [BitVec.toNat_setWidth]
    omega
  rw [shiftWindow, hfits]

/-- A framer step leaves the window, shifts its dibit in, or clears it on the way to SEARCHING (R32). -/
theorem Stepped.window {d : Dibit} {s : State} {r : State × Event} (h : Stepped d s r) :
    r.1.window = s.window ∨ (s.st = .searching ∧ r.1.window = shiftWindow s.window d) ∨
    (r.1.st = .searching ∧ r.1.window = 0 ∧ r.1.fbuf = [] ∧ r.1.unit = none) := by
  cases h with
  | shifts hst | syncs hst => exact .inr (.inl ⟨hst, rfl⟩)
  | accumulates | creates | lengthens => exact .inl rfl
  | rejects | completes => exact .inr (.inr ⟨rfl, rfl, rfl, rfl⟩)

/-- Settles O60. -/
theorem windowWrittenOnlyInSearch : Obligations.WindowWrittenOnlyInSearch := by
  unfold Obligations.WindowWrittenOnlyInSearch
  intro i s t h
  cases ran_of_exec h with
  | responds | faults => exact .inl rfl
  | resets => exact .inr (.inr ⟨rfl, rfl, rfl, rfl⟩)
  | feeds v hi hs hv =>
    obtain ⟨r, hstep, heq⟩ | ⟨c, heq⟩ := feedDibit_cases (v.setWidth 2) hs <;> rw [heq]
    · obtain hsame | ⟨hst, hshift⟩ | hclear := hstep.window
      · exact .inl hsame
      · exact .inr (.inl ⟨hst, v, hi, hshift.trans (shiftWindow_setWidth s.window hv)⟩)
      · exact .inr (.inr hclear)
    · exact .inl rfl
  | dispatches duid nac cw errs =>
    obtain ⟨v, -, heq⟩ | ⟨-, heq⟩ := dispatchNid_cases duid nac cw errs s <;> rw [heq]
    · exact .inl rfl
    · exact .inr (.inr ⟨rfl, rfl, rfl, rfl⟩)

end Sys2Proof.FramerSteps

/-!
PROOFS. The FEEDs (44 R320 to R331): one rule for each framer state and event, the DUID rows that the NID step runs, and
the completion of the fixed-size units with the record of the TDU.
-/

namespace Sys2Proof.Feeds

open Sys2Proof.Machine Sys2Proof.Safety Sys2Proof.Output Sys2Proof.FramerSteps

/-! ## SEARCHING and IDENTIFYING -/

/-- A FEED of a dibit takes its framer step (R320). -/
theorem exec_feed_eq {v : BitVec 8} {s t : State} {ev : Event} (hv : v.toNat < 4) (hs : Ready s)
    (hstep : feedStep (v.setWidth 2) s = .ok (t, ev)) : exec (.feed v) s = .next (feedDone (t, ev)) := by
  rw [exec_feed_of_fits hv hs, feedDibit, hstep]

theorem ready_of_st {s : State} {st : FramerState} (hst : s.st = st) (hne : st ≠ .faulted) : Ready s := by
  rw [Ready, hst]; exact hne

theorem windowDibits_eq (w : BitVec 48) :
    windowDibits w = (List.range 24).map fun i => w.extractLsb' (46 - 2 * i) 2 := by
  refine List.map_congr_left fun i hi => ?_
  have hi : i < 24 := List.mem_range.mp hi
  rw [show 2 * (24 - 1 - i) = 46 - 2 * i by omega]

/-- Settles O39: the shifted window is the one the statement writes out, and it correlates below 4 differences. -/
theorem feedSearches : Obligations.FeedSearches := by
  unfold Obligations.FeedSearches
  intro v s hv hst
  have hs : Ready s := ready_of_st hst (by decide)
  have hshift := shiftWindow_setWidth s.window hv
  have hstep := feedStep_searching (v.setWidth 2) hst
  have hcorr := SyncSearch.correlates_iff (shiftWindow s.window (v.setWidth 2))
  obtain ⟨hsync, heq⟩ | ⟨hnone, heq⟩ := searchStep_cases (v.setWidth 2) s <;> rw [heq] at hstep <;>
    rw [exec_feed_eq hv hs hstep, ← hshift]
  · rw [if_pos (Nat.lt_succ_of_le (hcorr.mp hsync)), windowDibits_eq]
    rfl
  · rw [if_neg fun hlt => by simp [hcorr.mpr (Nat.le_of_lt_succ hlt)] at hnone]
    simp only [feedDone, respond, hst]
    rfl

/-- Settles O41. -/
theorem feedAccumulatesNid : Obligations.FeedAccumulatesNid := by
  unfold Obligations.FeedAccumulatesNid
  intro v s hv hst hlen
  have hstep : feedStep (v.setWidth 2) s = .ok ({ s with fbuf := fed s v }, .none) := by
    rw [feedStep_identifying _ hst, identifyStep_eq, if_neg (by omega)]
    rfl
  rw [exec_feed_eq hv (ready_of_st hst (by decide)) hstep]
  simp only [feedDone, respond, hst]
  rfl

/-! ## The DUID rows -/

/-- In the NID step a DUID row is the dispatch of its DUID (R327, R328). -/
theorem duidRow_at {s : State} (hst : s.st = .identifying) (hpos : s.fbuf.length = 57) (duid : BitVec 4)
    (nac : BitVec 12) (errs : Nat) :
    duidRow duid nac errs s = .next (feedDone (dispatchNid duid nac (nidWord nac duid) errs s)) :=
  if_pos ⟨hst, hpos⟩

/-- A row of a recognized DUID creates its unit (R110, R261, R327). -/
theorem duidRow_recognized {s : State} (hst : s.st = .identifying) (hpos : s.fbuf.length = 57) {duid : BitVec 4}
    {variant : Variant} (hv : variantOf duid = some variant) (nac : BitVec 12) (errs : Nat) :
    duidRow duid nac errs s = .next { s with
      unit := some (createdUnit variant duid nac errs), st := .reading, resp := some (answerFeed .none 2) } := by
  rw [duidRow_at hst hpos, dispatchNid, hv]
  rfl

/-- A row of any other DUID rejects the candidate (R111, R328). -/
theorem duidRow_unrecognized {s : State} (hst : s.st = .identifying) (hpos : s.fbuf.length = 57) {duid : BitVec 4}
    (hv : variantOf duid = none) (nac : BitVec 12) (errs : Nat) :
    duidRow duid nac errs s = .next (rejected s .unrecognized) := by
  rw [duidRow_at hst hpos, dispatchNid, hv]
  rfl

/-- Settles O44, by the row of each recognized DUID. -/
theorem recognizedDuidsCreateUnits : Obligations.RecognizedDuidsCreateUnits := by
  unfold Obligations.RecognizedDuidsCreateUnits
  intro s nac errs hst hpos
  have hrow {duid : BitVec 4} {variant : Variant} (hv : variantOf duid = some variant) :=
    duidRow_recognized hst hpos hv nac errs
  exact ⟨hrow rfl, hrow rfl, hrow rfl, hrow rfl, hrow rfl, hrow rfl, hrow rfl, hrow rfl⟩

/-- Settles O45, by the row of each unrecognized DUID. -/
theorem unrecognizedDuidsRejectCandidate : Obligations.UnrecognizedDuidsRejectCandidate := by
  unfold Obligations.UnrecognizedDuidsRejectCandidate
  intro s nac errs hst hpos
  have hrow {duid : BitVec 4} (hv : variantOf duid = none) := duidRow_unrecognized hst hpos hv nac errs
  exact ⟨hrow rfl, hrow rfl, hrow rfl, hrow rfl, hrow rfl, hrow rfl, hrow rfl, hrow rfl⟩

theorem variantOf_eq_lookup : ∀ duid : BitVec 4, variantOf duid = duidTable.lookup duid := by decide

/-- The dispatch of a NID as the statements write it out (R327, R328). -/
theorem duidRow_eq_dispatched {s : State} (hst : s.st = .identifying) (hpos : s.fbuf.length = 57) (duid : BitVec 4)
    (nac : BitVec 12) (errs : Nat) : duidRow duid nac errs s = .next (dispatched s duid nac errs) := by
  rw [dispatched, ← variantOf_eq_lookup]
  cases hv : variantOf duid with
  | some variant => exact duidRow_recognized hst hpos hv nac errs
  | none => exact duidRow_unrecognized hst hpos hv nac errs

/-- The instruction of a DUID is its row. -/
theorem exec_duidInstr (duid : BitVec 4) (nac : BitVec 12) (errs : Nat) :
    exec (duidInstr duid nac errs) = duidRow duid nac errs := by
  have hcases : ∀ d : BitVec 4, d = 0 ∨ d = 1 ∨ d = 2 ∨ d = 3 ∨ d = 4 ∨ d = 5 ∨ d = 6 ∨ d = 7 ∨ d = 8 ∨ d = 9 ∨
      d = 10 ∨ d = 11 ∨ d = 12 ∨ d = 13 ∨ d = 14 ∨ d = 15 := by decide
  rcases hcases duid with
    rfl | rfl | rfl | rfl | rfl | rfl | rfl | rfl | rfl | rfl | rfl | rfl | rfl | rfl | rfl | rfl <;> rfl

/-! ## The NID step -/

/-- The information bits of a NID codeword, taken apart and put together (R104). -/
theorem nac_append_duid (i : BitVec 16) : i.extractLsb' 4 12 ++ i.extractLsb' 0 4 = i := by
  refine BitVec.eq_of_getLsbD_eq fun j hj => ?_
  rw [BitVec.getLsbD_append]
  split
  · next hlow => simp [hlow]
  · next hhigh =>
    have hlt : j - 4 < 12 := by omega
    simp [hlt, show 4 + (j - 4) = j by omega]

/-- The framer's NID step on the FEED of frame position 56 (R326). -/
theorem feedStep_nid {v : BitVec 8} {s : State} (hst : s.st = .identifying) (hlen : s.fbuf.length = 56) :
    feedStep (v.setWidth 2) s = nidStep { s with fbuf := fed s v } ∧
      frameNid (fed s v) = .ok (wordAt (dataBits (fed s v)) 48 64) := by
  have hpos : (fed s v).length = 57 := by simp [fed, hlen]
  refine ⟨?_, frameNid_eq_ok hpos.ge⟩
  rw [feedStep_identifying _ hst, identifyStep_eq, if_pos (by omega), fed]

/-- The FEED of frame position 56 whose NID is found runs the row of its DUID (R327, R328). -/
theorem exec_feed_nid_ok {v : BitVec 8} {s : State} (hv : v.toNat < 4) (hst : s.st = .identifying)
    (hlen : s.fbuf.length = 56) {i : BitVec 16} {c : BitVec 64} {n : Nat}
    (hnid : nidValidate (wordAt (dataBits (fed s v)) 48 64) = .ok i c n) :
    exec (.feed v) s = duidRow (i.extractLsb' 0 4) (i.extractLsb' 4 12) n { s with fbuf := fed s v } := by
  have hpos : (fed s v).length = 57 := by simp [fed, hlen]
  obtain ⟨hstep, hframe⟩ := feedStep_nid (v := v) hst hlen
  rw [nidStep_eq (s := { s with fbuf := fed s v }) hframe, hnid] at hstep
  have hcw : c = nidWord (i.extractLsb' 4 12) (i.extractLsb' 0 4) := by
    rw [nidWord, nac_append_duid]; exact (nidValidate_ok hnid).1
  rw [duidRow_at (s := { s with fbuf := fed s v }) hst hpos, ← hcw]
  exact exec_feed_eq hv (ready_of_st hst (by decide)) hstep

/-- The FEED of frame position 56 whose NID is not found rejects the candidate (R326). -/
theorem exec_feed_nid_fail {v : BitVec 8} {s : State} (hv : v.toNat < 4) (hst : s.st = .identifying)
    (hlen : s.fbuf.length = 56) (hnid : nidValidate (wordAt (dataBits (fed s v)) 48 64) = .fail) :
    exec (.feed v) s = .next (rejected s .nidFail) := by
  obtain ⟨hstep, hframe⟩ := feedStep_nid (v := v) hst hlen
  rw [nidStep_eq (s := { s with fbuf := fed s v }) hframe, hnid] at hstep
  exact exec_feed_eq hv (ready_of_st hst (by decide)) hstep

theorem decodeNid_of_ok {nid c : BitVec 64} {i : BitVec 16} {n : Nat} (h : nidValidate nid = .ok i c n) :
    decodeNid nid = some (duidInstr (i.extractLsb' 0 4) (i.extractLsb' 4 12) n) := by
  unfold decodeNid; rw [h]

theorem decodeNid_of_fail {nid : BitVec 64} (h : nidValidate nid = .fail) : decodeNid nid = none := by
  unfold decodeNid; rw [h]

/-- Settles O43: the NID that the decoder reads is the one that the NID step validates. -/
theorem feedRunsDuidRow : Obligations.FeedRunsDuidRow := by
  unfold Obligations.FeedRunsDuidRow
  intro v s hv hst hlen
  cases hnid : nidValidate (wordAt (dataBits (fed s v)) 48 64) with
  | fail =>
    rw [decodeNid_of_fail hnid]
    exact exec_feed_nid_fail hv hst hlen hnid
  | ok i c n =>
    rw [decodeNid_of_ok hnid, exec_feed_nid_ok hv hst hlen hnid, ← exec_duidInstr]

/-! ## READING a fixed-size unit -/

theorem mem_sizeTable_iff {v : Variant} {size : Nat} : (v, size) ∈ sizeTable ↔ fixedSize v = some size := by
  cases v <;> simp [sizeTable, fixedSize, sizeTdu, sizeTdulc, sizeHdu, sizeLdu, eq_comm (a := size)]

theorem ne_pdu_of_fixedSize {v : Variant} {size : Nat} (h : fixedSize v = some size) : v ≠ .pdu := by
  rintro rfl; cases h

theorem isComplete_fixed {u : DataUnit} {size : Nat} (hsize : fixedSize u.variant = some size) (pos : Nat) :
    isComplete pos u = (pos == size) := by rw [isComplete, hsize]

/-- A FEED of a fixed-size unit short of its size keeps reading (R330). -/
theorem feedStep_fixed_short {s : State} {u : DataUnit} {size : Nat} (d : Dibit) (hst : s.st = .reading)
    (hunit : s.unit = some u) (hlife : u.life = .accumulating) (hsize : fixedSize u.variant = some size)
    (hlen : s.fbuf.length + 1 ≠ size) : feedStep d s = .ok ({ s with fbuf := s.fbuf ++ [d] }, .none) := by
  rw [feedStep_reading d hst, readStep_eq hunit (extend_fixed hlife (ne_pdu_of_fixedSize hsize)),
    isComplete_fixed hsize, if_neg (by simpa using hlen), ← hunit]

/-- A FEED of a fixed-size unit's last dibit completes it (R331). -/
theorem feedStep_fixed_last {s : State} {u : DataUnit} {size : Nat} (d : Dibit) (hst : s.st = .reading)
    (hunit : s.unit = some u) (hlife : u.life = .accumulating) (hsize : fixedSize u.variant = some size)
    (hlen : s.fbuf.length + 1 = size) : feedStep d s = completeUnit (s.fbuf ++ [d]) u s := by
  rw [feedStep_reading d hst, readStep_eq hunit (extend_fixed hlife (ne_pdu_of_fixedSize hsize)),
    isComplete_fixed hsize, if_pos (by simpa using hlen)]

/-- Settles O47. -/
theorem feedExtendsFixedUnit : Obligations.FeedExtendsFixedUnit := by
  unfold Obligations.FeedExtendsFixedUnit
  intro v s u size hv hst hunit hlife hsize hlen
  have hstep := feedStep_fixed_short (v.setWidth 2) hst hunit hlife (mem_sizeTable_iff.mp hsize) hlen
  rw [exec_feed_eq hv (ready_of_st hst (by decide)) hstep]
  simp only [feedDone, respond, hst]
  rfl

/-- The last dibit of a fixed-size unit emits a record (R331). -/
theorem feedStep_fixed_emits {s : State} {u : DataUnit} {size : Nat} (d : Dibit) (hst : s.st = .reading)
    (hunit : s.unit = some u) (hlife : u.life = .accumulating) (hsize : fixedSize u.variant = some size)
    (hlen : s.fbuf.length + 1 = size) : ∃ x, feedStep d s = .ok (enterSearching (emit x s), .emitted) := by
  have hreadable : Faults.Readable (s.fbuf ++ [d]).length u :=
    ⟨hlife, fun hpdu => absurd hpdu (ne_pdu_of_fixedSize hsize)⟩
  have hcomplete : isComplete (s.fbuf ++ [d]).length u = true := by
    rw [isComplete_fixed hsize]; simpa using hlen
  obtain ⟨r, hr, -⟩ := Faults.answers_completeUnit hreadable hcomplete s
  rw [feedStep_fixed_last d hst hunit hlife hsize hlen]
  obtain ⟨x, hx⟩ | ⟨c, hc⟩ := completeUnit_cases (s.fbuf ++ [d]) u s
  · exact ⟨x, hx⟩
  · exact nomatch hr.symm.trans hc

/-- Feeding a fixed-size unit its remaining dibits: nothing happens before the last one (R264, R267). -/
theorem feedEvents_fixed {u : DataUnit} {size : Nat} (hlife : u.life = .accumulating)
    (hsize : fixedSize u.variant = some size) {ds : List Dibit} {s : State} (hst : s.st = .reading)
    (hunit : s.unit = some u) {n : Nat} (hds : ds.length = n + 1) (hlen : s.fbuf.length + ds.length = size) :
    ∃ t, feedEvents ds s = some (List.replicate n .none ++ [.emitted], t) ∧
      t.st = .searching ∧ t.unit = none ∧ t.out.length = s.out.length + 1 := by
  induction n generalizing ds s with
  | zero =>
    obtain ⟨d, rfl⟩ := List.length_eq_one_iff.mp hds
    obtain ⟨x, hstep⟩ := feedStep_fixed_emits d hst hunit hlife hsize hlen
    refine ⟨feedDone (enterSearching (emit x s), .emitted), ?_, rfl, rfl, by simp [feedDone]⟩
    rw [SyncSearch.feedEvents_cons (ready_of_st hst (by decide)) hstep]
    rfl
  | succ n ih =>
    obtain ⟨d, ds, rfl⟩ := List.exists_cons_of_length_eq_add_one hds
    rw [List.length_cons] at hds hlen
    have hstep := feedStep_fixed_short d hst hunit hlife hsize (by omega)
    obtain ⟨t, hrun, hsearching, hnone, hout⟩ :=
      ih (ds := ds) (s := feedDone ({ s with fbuf := s.fbuf ++ [d] }, .none)) hst hunit (by omega)
        (by simp [feedDone]; omega)
    refine ⟨t, ?_, hsearching, hnone, hout⟩
    rw [SyncSearch.feedEvents_cons (ready_of_st hst (by decide)) hstep, hrun]
    rfl

/-- Settles O48: the invariant says that the unit accumulates, and the run of its dibits is followed to the last. -/
theorem fixedUnitCompletesOnLastFeed : Obligations.FixedUnitCompletesOnLastFeed := by
  unfold Obligations.FixedUnitCompletesOnLastFeed
  intro s u size ds hinv hst hunit hsize hlen hds
  have hfixed := mem_sizeTable_iff.mp hsize
  obtain ⟨-, hshaped⟩ := shaped_of_inv (ready_of_st hst (by decide)) hinv
  obtain ⟨w, hw, hlife⟩ := readsUnit_of_shaped hshaped hst
  obtain rfl : u = w := Option.some.inj (hunit.symm.trans hw)
  have hgt : 58 ≤ size := by cases hv : u.variant <;> rw [hv] at hfixed <;> cases hfixed <;> decide
  exact feedEvents_fixed hlife.life hfixed hst hunit (n := size - 58) (by omega) (by omega)

/-! ## Writing over the data bits -/

theorem setBits_span {b w : Bits} {a n : Nat} (hw : w.length = n) (h : a + n ≤ b.length) :
    setBits b (span a n) w = b.take a ++ w ++ b.drop (a + n) := by
  induction w generalizing b a n with
  | nil =>
    subst hw
    simp [span, setBits]
  | cons x w ih =>
    subst hw
    rw [List.length_cons] at h ⊢
    have hspan : span a (w.length + 1) = a :: span (a + 1) w.length := by simp [span, List.range'_succ]
    have ha : a < b.length := by omega
    rw [hspan, setBits, ih rfl (by simp; omega)]
    have htake : (b.set a x).take (a + 1) = b.take a ++ [x] := by
      rw [List.take_add_one, List.take_set_of_le (by omega)]
      simp [ha]
    have hdrop : (b.set a x).drop (a + 1 + w.length) = b.drop (a + (w.length + 1)) := by
      rw [List.drop_set_of_lt (by omega), show a + 1 + w.length = a + (w.length + 1) by omega]
    rw [htake, hdrop]
    simp

/-- SCATTER over a span replaces the bits there (R67, R302). -/
theorem scatter_span {n a : Nat} {b : Bits} {w : BitVec n} (h : a + n ≤ b.length) :
    scatter b (span a n) w.toNat = .ok (overwritten b a w) := by
  have hrange : ∀ i ∈ span a n, i < b.length := fun i hi => by have := mem_span.mp hi; omega
  rw [scatter_eq_ok hrange, span_length, setBits_span (bits_length ..) h]
  rfl

theorem scatter_nid {b : Bits} {cw : BitVec 64} (h : 112 ≤ b.length) :
    scatter b (span 48 64) cw.toNat = .ok (nidWritten b cw) := scatter_span (a := 48) h

/-! ## Completion -/

/-- The decode of a complete unit: the NID is written back, then the pipeline runs (R265, R268, R302). -/
theorem completeUnit_eq {f : List Dibit} {u : DataUnit} {s : State} {x : Decoding} (hlen : 57 ≤ f.length)
    (hx : decodeVariant { u with life := .complete } (nidWritten (dataBits f) u.nidCw) = .ok x) :
    completeUnit f u s = .ok (enterSearching (emit (recordOf u f.length x) s), .emitted) := by
  have hbits : 112 ≤ (dataBits f).length := by rw [dataBits_length, ndata, statusPeriod]; omega
  have hdecode : decodeUnit f { u with life := .complete } =
      .ok (recordOf u f.length x, { u with life := .decoded }) := by
    rw [decodeUnit, if_neg (not_not.mpr rfl)]
    simp only [scatter_nid hbits, bind, Except.bind, hx]
    rfl
  simp only [completeUnit, hdecode, bind, Except.bind]
  rfl

/-- The FEED of a fixed-size unit's last dibit emits the record of its pipeline (R331). -/
theorem exec_feed_fixed_last {v : BitVec 8} {s : State} {u : DataUnit} {size : Nat} {x : Decoding} (hv : v.toNat < 4)
    (hst : s.st = .reading) (hunit : s.unit = some u) (hlife : u.life = .accumulating)
    (hsize : fixedSize u.variant = some size) (hlen : s.fbuf.length + 1 = size)
    (hx : decodeVariant { u with life := .complete } (nidWritten (dataBits (fed s v)) u.nidCw) = .ok x) :
    exec (.feed v) s = .next (completed s (recordOf u size x)) := by
  have hgt : 57 ≤ size := by cases hvar : u.variant <;> rw [hvar] at hsize <;> cases hsize <;> decide
  have hfed : (fed s v).length = size := by simpa [fed] using hlen
  have hstep := feedStep_fixed_last (v.setWidth 2) hst hunit hlife hsize hlen
  rw [show s.fbuf ++ [v.setWidth 2] = fed s v from rfl, completeUnit_eq (hfed ▸ hgt) hx, hfed] at hstep
  exact exec_feed_eq hv (ready_of_st hst (by decide)) hstep

/-- Settles O49. -/
theorem tduRecord : Obligations.TduRecord := by
  unfold Obligations.TduRecord
  intro v s u hv hst hunit hvar hlife hlen
  have hsize : fixedSize u.variant = some 72 := by rw [hvar]; rfl
  have hx : decodeVariant { u with life := .complete } (nidWritten (dataBits (fed s v)) u.nidCw) =
      .ok { dbits := nidWritten (dataBits (fed s v)) u.nidCw, fields := .tdu, payload := [] } := by
    simp only [decodeVariant, hvar, decodeTdu]
  rw [exec_feed_fixed_last hv hst hunit hlife hsize (by omega) hx, recordOf, hvar]

end Sys2Proof.Feeds

/-!
PROOFS. The binary block codes (40): weights and distances, systematic linear codes and their bounded-distance decoding
(R150), and the cyclic, extended, shortened and Hamming codes as such codes.
-/

namespace Sys2Proof.BinaryCodes

open Sys2Proof.Machine Sys2Proof.Safety Sys2Proof.Parameters

/-! ## Weights and distances -/

/-- Where two predicates differ is where one of them holds, but for the places where both do, which are lost twice. -/
theorem length_filter_xor (p q : Nat → Bool) (l : List Nat) :
    ∃ z, (l.filter p).length + (l.filter q).length = (l.filter fun i => p i ^^ q i).length + 2 * z := by
  induction l with
  | nil => exact ⟨0, rfl⟩
  | cons i l ih =>
    obtain ⟨z, hz⟩ := ih
    refine ⟨z + (p i && q i).toNat, ?_⟩
    simp only [List.filter_cons]
    cases p i <;> cases q i <;> simp <;> omega

theorem ones_xor {n : Nat} (a b : BitVec n) : ∃ z, ones a + ones b = ones (a ^^^ b) + 2 * z := by
  simpa only [ones, BitVec.getLsbD_xor] using length_filter_xor a.getLsbD b.getLsbD (List.range n)

theorem ones_xor_le {n : Nat} (a b : BitVec n) : ones (a ^^^ b) ≤ ones a + ones b := by
  obtain ⟨z, hz⟩ := ones_xor a b
  omega

theorem ones_xor_mod {n : Nat} (a b : BitVec n) : ones (a ^^^ b) % 2 = (ones a + ones b) % 2 := by
  obtain ⟨z, hz⟩ := ones_xor a b
  omega

theorem ones_append {n m : Nat} (a : BitVec n) (b : BitVec m) : ones (a ++ b) = ones a + ones b := by
  have hrange : List.range (n + m) = List.range m ++ (List.range n).map (m + ·) := by rw [Nat.add_comm, List.range_add]
  rw [ones, hrange, List.filter_append, List.length_append, Nat.add_comm (ones a)]
  congr 1
  · refine congrArg List.length (List.filter_congr fun i hi => ?_)
    simp [BitVec.getLsbD_append, List.mem_range.mp hi]
  · rw [List.filter_map, List.length_map]
    refine congrArg List.length (List.filter_congr fun i _ => ?_)
    simp [BitVec.getLsbD_append]

theorem ones_twoPow {n i : Nat} (hi : i < n) : ones (BitVec.twoPow n i) = 1 := by
  have hbit : ∀ j ∈ List.range n, (BitVec.twoPow n i).getLsbD j = (j == i) := by
    intro j hj
    have hj := List.mem_range.mp hj
    by_cases hji : j = i
    · simp [hji, hi]
    · simp [hji, Ne.symm hji]
  rw [ones, List.filter_congr hbit, List.filter_beq, List.length_replicate]
  exact List.count_eq_one_of_mem List.nodup_range (List.mem_range.mpr hi)

theorem ones_eq_zero_iff {n : Nat} {a : BitVec n} : ones a = 0 ↔ a = 0 := by
  rw [ones, List.length_eq_zero_iff, List.filter_eq_nil_iff]
  constructor
  · intro h
    refine BitVec.eq_of_getLsbD_eq fun i hi => ?_
    simpa using h i (List.mem_range.mpr hi)
  · rintro rfl
    simp

theorem differences_comm {n : Nat} (a b : BitVec n) : differences a b = differences b a := by
  rw [differences_eq_ones, differences_eq_ones, BitVec.xor_comm]

theorem differences_triangle {n : Nat} (a b c : BitVec n) : differences a c ≤ differences a b + differences b c := by
  have hsum : a ^^^ c = (a ^^^ b) ^^^ (b ^^^ c) := by
    rw [BitVec.xor_assoc, ← BitVec.xor_assoc b b c, BitVec.xor_self, BitVec.zero_xor]
  rw [differences_eq_ones, differences_eq_ones, differences_eq_ones, hsum]
  exact ones_xor_le _ _

theorem dist_eq_differences {n : Nat} (a b : BitVec n) : dist a b = differences a b := dist_eq a b

/-- A word at distance 1 differs in one bit. -/
theorem exists_twoPow_of_ones_eq_one {n : Nat} {a : BitVec n} (h : ones a = 1) :
    ∃ i < n, a = BitVec.twoPow n i := by
  obtain ⟨i, hi⟩ := List.length_eq_one_iff.mp h
  have hmem (j : Nat) : j < n ∧ a.getLsbD j = true ↔ j = i := by
    have := congrArg (j ∈ ·) hi
    simpa using this
  obtain ⟨hin, hbit⟩ := (hmem i).mpr rfl
  refine ⟨i, hin, BitVec.eq_of_getLsbD_eq fun j hj => ?_⟩
  by_cases hji : j = i
  · simp [hji, hbit, hin]
  · have : a.getLsbD j = false := by
      by_contra hne
      exact hji ((hmem j).mp ⟨hj, by simpa using hne⟩)
    simp [this, Ne.symm hji]

/-! ## Systematic linear codes -/

/-- The code is linear, and `enc` gives its word for the information bits in the high `k` bits (R152, R170). -/
structure Systematic {k n : Nat} (code : BitVec n → Prop) (enc : BitVec k → BitVec n) : Prop where
  code_enc : ∀ m, code (enc m)
  info_enc : ∀ m, infoBits k (enc m) = m
  enc_info : ∀ c, code c → enc (infoBits k c) = c
  code_xor : ∀ a b, code a → code b → code (a ^^^ b)

theorem infoBits_xor {k n : Nat} (a b : BitVec n) : infoBits k (a ^^^ b) = infoBits k a ^^^ infoBits k b := by
  refine BitVec.eq_of_getLsbD_eq fun i hi => ?_
  simp [infoBits, hi]

/-- A word is within the radius of at most one codeword. -/
def Separated {n : Nat} (code : BitVec n → Prop) (t : Nat) : Prop :=
  ∀ c, code c → c ≠ 0 → 2 * t < ones c

section Systematic

variable {k n : Nat} {code : BitVec n → Prop} {enc : BitVec k → BitVec n}

theorem Systematic.enc_xor (h : Systematic code enc) (a b : BitVec k) : enc (a ^^^ b) = enc a ^^^ enc b := by
  have hinfo := h.enc_info _ (h.code_xor _ _ (h.code_enc a) (h.code_enc b))
  rwa [infoBits_xor, h.info_enc, h.info_enc] at hinfo

/-- The search visits the codeword of every message that agrees with the start's in the bits already decided. -/
theorem Systematic.enc_mem_sums (h : Systematic code enc) {j a : Nat} (hja : a + j = k) {m m' : BitVec k}
    (hagree : ∀ i < a, m.getMsbD i = m'.getMsbD i) :
    enc m ∈ sums ((List.range' a j).map fun i => enc (BitVec.twoPow k (k - 1 - i))) (enc m') := by
  induction j generalizing a m' with
  | zero =>
    have hm : m = m' := BitVec.eq_of_getMsbD_eq fun i hi => hagree i (by omega)
    simp [sums, hm]
  | succ j ih =>
    rw [List.range'_succ, List.map_cons, sums, List.mem_append]
    have hflip (i : Nat) (hi : i ≤ a) :
        (m' ^^^ BitVec.twoPow k (k - 1 - a)).getMsbD i = (m'.getMsbD i ^^ (i == a)) := by
      have hik : i < k := by omega
      rw [BitVec.getMsbD_xor]
      congr 1
      by_cases hia : i = a
      · simp [BitVec.getMsbD, hia]; omega
      · have hne : k - 1 - a ≠ k - 1 - i := by omega
        simp [BitVec.getMsbD, hne, hia]
    by_cases hbit : m.getMsbD a = m'.getMsbD a
    · refine .inl (ih (by omega) fun i hi => ?_)
      rcases Nat.lt_succ_iff_lt_or_eq.mp hi with hlt | rfl
      · exact hagree i hlt
      · exact hbit
    · refine .inr (h.enc_xor m' _ ▸ ih (by omega) fun i hi => ?_)
      rw [hflip i (by omega)]
      rcases Nat.lt_succ_iff_lt_or_eq.mp hi with hlt | rfl
      · rw [hagree i hlt, beq_false_of_ne hlt.ne, Bool.xor_false]
      · simpa using Bool.eq_not_of_ne hbit

theorem Systematic.code_of_mem_sums (h : Systematic code enc) {rows : List (BitVec n)} (hrows : ∀ g ∈ rows, code g)
    {c x : BitVec n} (hc : code c) (hx : x ∈ sums rows c) : code x := by
  induction rows generalizing c with
  | nil => simpa [sums] using (List.mem_singleton.mp hx) ▸ hc
  | cons g rows ih =>
    have hrest := fun y hy => hrows y (List.mem_cons_of_mem g hy)
    rcases List.mem_append.mp hx with hx | hx
    · exact ih hrest hc hx
    · exact ih hrest (h.code_xor c g hc (hrows g (List.mem_cons_self ..))) hx

/-- The search of a systematic code visits its words and no others (notes/assumptions/11.md). -/
theorem Systematic.mem_sums_iff (h : Systematic code enc) {c x : BitVec n} (hc : code c) :
    x ∈ sums (generatorRows enc) c ↔ code x := by
  constructor
  · refine h.code_of_mem_sums (fun g hg => ?_) hc
    obtain ⟨i, -, rfl⟩ := List.mem_map.mp hg
    exact h.code_enc _
  · intro hx
    rw [← h.enc_info x hx, ← h.enc_info c hc, generatorRows, List.range_eq_range']
    exact h.enc_mem_sums (by omega) fun i hi => absurd hi (by omega)

/-! ## Bounded-distance decoding -/

/-- Bounded-distance decoding (R150), of the decoder's result. -/
def Decodes {k n : Nat} (code : BitVec n → Prop) (t : Nat) (r : BitVec n) (x : Decoded (BitVec k) (BitVec n)) : Prop :=
  (∃ c, code c ∧ differences c r ≤ t ∧ x = .ok (infoBits k c) c (differences c r)) ∨
  ((∀ c, code c → t < differences c r) ∧ x = .fail)

/-- The search of a systematic code is bounded-distance decoding at every radius. -/
theorem Systematic.decodes_bdd (h : Systematic code enc) (t : Nat) (r : BitVec n) :
    Decodes code t r (bdd enc t r) := by
  have hstart := h.code_enc (infoBits k r)
  rw [bdd]
  cases hsearch : searchCode t r (generatorRows enc) (enc (infoBits k r)) with
  | some c =>
    obtain ⟨hmem, hle⟩ := searchCode_some hsearch
    rw [dist_eq_differences] at hle
    exact .inl ⟨c, (h.mem_sums_iff hstart).mp hmem, hle, by simp only [dist_eq_differences]⟩
  | none =>
    refine .inr ⟨fun c hc => ?_, rfl⟩
    rw [← dist_eq_differences]
    exact searchCode_none hsearch c ((h.mem_sums_iff hstart).mpr hc)

/-- A bounded-distance decoder's response. -/
theorem Decodes.boundedDistance {t : Nat} {r : BitVec n} {x : Decoded (BitVec k) (BitVec n)} (h : Decodes code t r x) :
    BoundedDistance code differences (infoBits k) t r (decodedResponse x) := by
  obtain ⟨c, hc, hle, rfl⟩ | ⟨hnone, rfl⟩ := h
  · exact .inl ⟨c, hc, hle, rfl⟩
  · exact .inr ⟨hnone, rfl⟩

/-- A decoder whose code covers every word within its radius does not fail. -/
theorem Decodes.status_ok {t : Nat} {r : BitVec n} {x : Decoded (BitVec k) (BitVec n)}
    (h : Decodes code t r x) (hcovers : ∃ c, code c ∧ differences c r ≤ t) : (decodedResponse x).status = .ok := by
  obtain ⟨c, -, -, rfl⟩ | ⟨hnone, -⟩ := h
  · rfl
  · obtain ⟨c, hc, hle⟩ := hcovers
    exact absurd hle (Nat.not_le.mpr (hnone c hc))

/-- In a separated code the codeword within the radius is the only one. -/
theorem Systematic.eq_of_differences_le (h : Systematic code enc) {t : Nat} (hsep : Separated code t)
    {a b r : BitVec n} (ha : code a) (hb : code b) (har : differences a r ≤ t) (hbr : differences b r ≤ t) : a = b := by
  by_contra hab
  have hlt := hsep _ (h.code_xor a b ha hb) fun hzero => hab (BitVec.xor_eq_zero_iff.mp hzero)
  have htri := differences_triangle a r b
  rw [← differences_eq_ones] at hlt
  rw [differences_comm r b] at htri
  omega

/-- A word within the radius of a codeword of a separated code decodes to it. -/
theorem Systematic.decodes_eq_ok (h : Systematic code enc) {t : Nat} (hsep : Separated code t) {r : BitVec n}
    {x : Decoded (BitVec k) (BitVec n)} (hx : Decodes code t r x) {m : BitVec k} (hm : differences (enc m) r ≤ t) :
    x = .ok m (enc m) (differences (enc m) r) := by
  obtain ⟨c, hc, hle, rfl⟩ | ⟨hnone, -⟩ := hx
  · rw [h.eq_of_differences_le hsep hc (h.code_enc m) hle hm, h.info_enc]
  · exact absurd hm (Nat.not_le.mpr (hnone _ (h.code_enc m)))

end Systematic

/-! ## Multiples of a polynomial -/

theorem isMultiple_xor {k n : Nat} {g a b : BitVec n} (ha : IsMultiple k g a) (hb : IsMultiple k g b) :
    IsMultiple k g (a ^^^ b) := by
  obtain ⟨p, rfl⟩ := ha
  obtain ⟨q, rfl⟩ := hb
  exact ⟨p ^^^ q, (polyProduct_xor p q g).symm⟩

theorem isMultiple_zero (k : Nat) {n : Nat} (g : BitVec n) : IsMultiple k g 0 := by
  have h := isMultiple_xor (k := k) (g := g) ⟨0, rfl⟩ ⟨0, rfl⟩
  rwa [BitVec.xor_self] at h

/-- Adding up what is selected by a single index adds that one. -/
theorem foldl_select {n : Nat} (s : Nat → BitVec n) {j : Nat} {l : List Nat} (hnodup : l.Nodup) (a : BitVec n) :
    l.foldl (fun acc i => if i == j then acc ^^^ s i else acc) a = if j ∈ l then a ^^^ s j else a := by
  induction l generalizing a with
  | nil => simp
  | cons i l ih =>
    obtain ⟨hi, hl⟩ := List.nodup_cons.mp hnodup
    rw [List.foldl_cons, ih hl]
    by_cases hij : i = j
    · subst hij; simp [hi]
    · simp [hij, Ne.symm hij]

theorem polyProduct_twoPow {k n j : Nat} (hj : j < k) (g : BitVec n) :
    polyProduct (BitVec.twoPow k j) g = g <<< j := by
  have hbit (i : Nat) : (BitVec.twoPow k j).getLsbD i = (i == j) := by
    by_cases hij : i = j
    · simp [hij, hj]
    · simp [hij, Ne.symm hij]
  simp only [polyProduct, hbit]
  rw [foldl_select (fun i => g <<< i) List.nodup_range, if_pos (List.mem_range.mpr hj)]
  exact BitVec.zero_xor

theorem isMultiple_shiftLeft {k n j : Nat} (hj : j < k) (g : BitVec n) : IsMultiple k g (g <<< j) :=
  ⟨BitVec.twoPow k j, (polyProduct_twoPow hj g).symm⟩

/-- The remainder differs from the polynomial by a multiple of the divisor (R152). -/
theorem isMultiple_xor_polyRem {K n d : Nat} (g : BitVec n) {k : Nat} (hk : k ≤ K) (a : BitVec n) :
    IsMultiple K g (a ^^^ polyRem g d k a) := by
  induction k generalizing a with
  | zero => rw [polyRem, BitVec.xor_self]; exact isMultiple_zero K g
  | succ k ih =>
    rw [polyRem]
    split
    · have hrest := ih (by omega) (a ^^^ g <<< k)
      have hsum : a ^^^ polyRem g d k (a ^^^ g <<< k) =
          (g <<< k) ^^^ (a ^^^ g <<< k ^^^ polyRem g d k (a ^^^ g <<< k)) := by
        calc a ^^^ polyRem g d k (a ^^^ g <<< k)
            = a ^^^ (g <<< k ^^^ g <<< k) ^^^ polyRem g d k (a ^^^ g <<< k) := by
              rw [BitVec.xor_self, BitVec.xor_zero]
          _ = _ := by ac_rfl
      rw [hsum]
      exact isMultiple_xor (isMultiple_shiftLeft (by omega) g) hrest
    · exact ih (by omega) a

/-- `g` is a polynomial of degree `d`. -/
structure HasDegree {n : Nat} (g : BitVec n) (d : Nat) : Prop where
  lead : g.getLsbD d = true
  above : ∀ i, d < i → g.getLsbD i = false

/-- The remainder has no coefficient from x^d up (R152). -/
theorem getLsbD_polyRem {n d : Nat} {g : BitVec n} (hg : HasDegree g d) {k : Nat} (hn : d + k ≤ n) {a : BitVec n}
    (ha : ∀ i, d + k ≤ i → a.getLsbD i = false) {i : Nat} (hi : d ≤ i) : (polyRem g d k a).getLsbD i = false := by
  induction k generalizing a with
  | zero => exact ha i hi
  | succ k ih =>
    rw [polyRem]
    refine ih (by omega) fun j hj => ?_
    have hshift : (g <<< k).getLsbD j = (decide (j < n) && g.getLsbD (j - k)) := by
      rw [BitVec.getLsbD_shiftLeft]
      simp [show ¬ j < k by omega]
    rcases Nat.eq_or_lt_of_le hj with rfl | hlt
    · split
      · next hbit =>
        rw [BitVec.getLsbD_xor, hbit, hshift, Nat.add_sub_cancel, hg.lead]
        simp [show d + k < n by omega]
      · next hbit => simpa using hbit
    · have hzero : (g <<< k).getLsbD j = false := by rw [hshift, hg.above _ (by omega), Bool.and_false]
      split
      · rw [BitVec.getLsbD_xor, ha j (by omega), hzero]; rfl
      · exact ha j (by omega)

section Cyclic

variable {k n d : Nat} {g : BitVec n} (hn : n = d + k) (hg : HasDegree g d)
include hn hg

theorem getLsbD_cyclicEncode (m : BitVec k) (i : Nat) :
    (cyclicEncode n d g m).getLsbD i =
      if i < d then (polyRem g d k (m.setWidth n <<< d)).getLsbD i else m.getLsbD (i - d) := by
  have hrem : ∀ i, d ≤ i → (polyRem g d k (m.setWidth n <<< d)).getLsbD i = false :=
    fun i hi => getLsbD_polyRem hg hn.ge (fun j hj => BitVec.getLsbD_of_ge _ _ (by omega)) hi
  rw [cyclicEncode, BitVec.getLsbD_or, BitVec.getLsbD_shiftLeft, BitVec.getLsbD_setWidth]
  split
  · next hlow => simp [hlow]
  · next hhigh =>
    rw [hrem i (by omega)]
    rcases Nat.lt_or_ge (i - d) k with hlt | hge
    · simp [hhigh, show i < n by omega, show i - d < n by omega]
    · simp [BitVec.getLsbD_of_ge m _ hge]

theorem infoBits_cyclicEncode (m : BitVec k) : infoBits k (cyclicEncode n d g m) = m := by
  refine BitVec.eq_of_getLsbD_eq fun i hi => ?_
  rw [infoBits, BitVec.getLsbD_extractLsb', getLsbD_cyclicEncode hn hg]
  simp [hi, hn]

theorem isMultiple_cyclicEncode (m : BitVec k) : IsMultiple k g (cyclicEncode n d g m) := by
  have hxor : cyclicEncode n d g m = (m.setWidth n <<< d) ^^^ polyRem g d k (m.setWidth n <<< d) := by
    refine BitVec.eq_of_getLsbD_eq fun i _ => ?_
    have hrem : d ≤ i → (polyRem g d k (m.setWidth n <<< d)).getLsbD i = false :=
      fun hi => getLsbD_polyRem hg hn.ge (fun j hj => BitVec.getLsbD_of_ge _ _ (by omega)) hi
    rw [cyclicEncode, BitVec.getLsbD_or, BitVec.getLsbD_xor]
    rcases Nat.lt_or_ge i d with hlow | hhigh
    · rw [BitVec.getLsbD_shiftLeft]; simp [hlow]
    · rw [hrem hhigh]; simp
  rw [hxor]
  exact isMultiple_xor_polyRem g (Nat.le_refl k) _

/-- The multiples of a polynomial of degree `d`, with the systematic encoder: as many multipliers as messages, so the
information bits determine the multiple (R152, R161, R176). -/
theorem systematic_cyclicEncode : Systematic (IsMultiple k g) (cyclicEncode (k := k) n d g) := by
  have hsurj : Function.Surjective fun q : BitVec k => infoBits k (polyProduct q g) := by
    intro m
    obtain ⟨q, hq⟩ := isMultiple_cyclicEncode hn hg m
    exact ⟨q, by simp only [← hq, infoBits_cyclicEncode hn hg]⟩
  have hinj := Finite.injective_iff_surjective.mpr hsurj
  refine ⟨isMultiple_cyclicEncode hn hg, infoBits_cyclicEncode hn hg, ?_, fun _ _ => isMultiple_xor⟩
  rintro c ⟨q, rfl⟩
  obtain ⟨q', hq'⟩ := isMultiple_cyclicEncode hn hg (infoBits k (polyProduct q g))
  have hinfo := infoBits_cyclicEncode hn hg (infoBits k (polyProduct q g))
  rw [hq'] at hinfo ⊢
  rw [hinj hinfo]

end Cyclic

/-! ## The extended code -/

/-- A code with an even-parity bit appended (R155, R164). -/
def EvenExtension {n : Nat} (code : BitVec n → Prop) (c : BitVec (n + 1)) : Prop :=
  code (c.extractLsb' 1 n) ∧ ones c % 2 = 0

theorem append_parts {n : Nat} (c : BitVec (n + 1)) : c.extractLsb' 1 n ++ c.extractLsb' 0 1 = c := by
  refine BitVec.eq_of_getLsbD_eq fun j hj => ?_
  rw [BitVec.getLsbD_append]
  split
  · next hlow => simp [hlow]
  · next hhigh => simp [show j - 1 < n by omega, show 1 + (j - 1) = j by omega]

theorem ones_bit : ∀ b : BitVec 1, ones b = b.toNat := by decide

/-- The parity bit makes the weight even. -/
theorem ones_extendEven {n : Nat} (c : BitVec n) : ones (extendEven c) % 2 = 0 := by
  have hpop : popcount c = ones c := popcount_eq c
  rw [extendEven, ones_append, ones_bit, parity, hpop, BitVec.toNat_ofNat]
  omega

theorem extractLsb'_extendEven {n : Nat} (c : BitVec n) : (extendEven c).extractLsb' 1 n = c := by
  rw [extendEven, Control.extractLsb'_append_high (a := 0), BitVec.extractLsb'_eq_self]

theorem infoBits_succ {k n : Nat} (hk : k ≤ n) (c : BitVec (n + 1)) :
    infoBits k c = infoBits k (c.extractLsb' 1 n) := by
  refine BitVec.eq_of_getLsbD_eq fun i hi => ?_
  simp [infoBits, hi, show n - k + i < n by omega, show n + 1 - k + i = 1 + (n - k + i) by omega]

/-- The word and the weight determine the parity bit. -/
theorem extendEven_extractLsb' {n : Nat} {c : BitVec (n + 1)} (h : ones c % 2 = 0) :
    extendEven (c.extractLsb' 1 n) = c := by
  have hpop : popcount (c.extractLsb' 1 n) = ones (c.extractLsb' 1 n) := popcount_eq _
  have hsplit : ones c = ones (c.extractLsb' 1 n) + (c.extractLsb' 0 1).toNat := by
    rw [← ones_bit, ← ones_append, append_parts]
  have hbit : parity (c.extractLsb' 1 n) = c.extractLsb' 0 1 := by
    apply BitVec.eq_of_toNat_eq
    have hlt := (c.extractLsb' 0 1).isLt
    rw [parity, hpop, BitVec.toNat_ofNat]
    omega
  rw [extendEven, hbit, append_parts]

theorem systematic_extendEven {k n : Nat} {code : BitVec n → Prop} {enc : BitVec k → BitVec n} (hk : k ≤ n)
    (h : Systematic code enc) : Systematic (EvenExtension code) fun m => extendEven (enc m) where
  code_enc m := ⟨(extractLsb'_extendEven (enc m)).symm ▸ h.code_enc m, ones_extendEven _⟩
  info_enc m := by rw [infoBits_succ hk, extractLsb'_extendEven, h.info_enc]
  enc_info c hc := by rw [infoBits_succ hk, h.enc_info _ hc.1, extendEven_extractLsb' hc.2]
  code_xor a b ha hb := by
    have hparts : (a ^^^ b).extractLsb' 1 n = a.extractLsb' 1 n ^^^ b.extractLsb' 1 n := by
      refine BitVec.eq_of_getLsbD_eq fun i hi => ?_
      simp [hi]
    refine ⟨hparts ▸ h.code_xor _ _ ha.1 hb.1, ?_⟩
    rw [ones_xor_mod, Nat.add_mod, ha.2, hb.2]

/-- An appended bit takes nothing off the distance. -/
theorem separated_evenExtension {n t : Nat} {code : BitVec n → Prop} (h : Separated code t) :
    Separated (EvenExtension code) t := by
  rintro c ⟨hcode, heven⟩ hne
  have hpart : c.extractLsb' 1 n ≠ 0 := by
    intro hzero
    apply hne
    rw [← extendEven_extractLsb' heven, hzero]
    exact ones_eq_zero_iff.mp (by rw [extendEven, ones_append, ones_bit]; simp [parity, popcount_eq, ones_eq_zero_iff])
  have hlt := h _ hcode hpart
  have hsplit : ones c = ones (c.extractLsb' 1 n) + ones (c.extractLsb' 0 1) := by rw [← ones_append, append_parts]
  omega

end Sys2Proof.BinaryCodes

/-!
PROOFS. The binary codes' commands (40, 44 R335): what each encoder and decoder answers, with Golay(23,12) and
Hamming(15,11) perfect; and the NID within 11 bit errors of a codeword.
-/

namespace Sys2Proof.CodeCommands

open Sys2Proof.Machine Sys2Proof.Safety Sys2Proof.Parameters Sys2Proof.BinaryCodes

/-! ## The codes -/

theorem hasDegree_of_lt {n : Nat} {g : BitVec n} {d : Nat} (h : g.getLsbD d = true ∧ g.toNat < 2 ^ (d + 1)) :
    HasDegree g d :=
  ⟨h.1, fun _ hi => Nat.testBit_lt_two_pow (h.2.trans_le (Nat.pow_le_pow_right (by decide) hi))⟩

theorem systematic_enc23 : Systematic IsGolay23 enc23 := systematic_cyclicEncode rfl (hasDegree_of_lt (by decide))

theorem systematic_enc24 : Systematic IsGolay24 enc24 := systematic_extendEven (by decide) systematic_enc23

theorem systematic_enc63 : Systematic IsBch63 enc63 := systematic_cyclicEncode rfl (hasDegree_of_lt (by decide))

theorem systematic_enc64 : Systematic IsBch64 enc64 := systematic_extendEven (by decide) systematic_enc63

theorem systematic_encC16 : Systematic IsCyclic16 encC16 :=
  systematic_cyclicEncode rfl ⟨cyc16Gen_degree.1, cyc16Gen_degree.2⟩

/-! ### The shortened Golay code -/

theorem setWidth_setWidth_of_infoBits {c : BitVec 24} {m : BitVec 6} (h : infoBits 12 c = m.setWidth 12) :
    (c.setWidth 18).setWidth 24 = c := by
  refine BitVec.eq_of_getLsbD_eq fun i hi => ?_
  rw [BitVec.getLsbD_setWidth, BitVec.getLsbD_setWidth]
  rcases Nat.lt_or_ge i 18 with hlow | hhigh
  · simp [hi, hlow]
  · have hbit : (infoBits 12 c).getLsbD (i - 12) = false := by
      rw [h, BitVec.getLsbD_setWidth, BitVec.getLsbD_of_ge m _ (by omega), Bool.and_false]
    rw [infoBits, BitVec.getLsbD_extractLsb'] at hbit
    have hc : c.getLsbD i = false := by
      simpa [show i - 12 < 12 by omega, show 12 + (i - 12) = i by omega] using hbit
    simp [show ¬ i < 18 by omega, hc]

theorem setWidth_enc18 (m : BitVec 6) : (enc18 m).setWidth 24 = enc24 (m.setWidth 12) :=
  setWidth_setWidth_of_infoBits (systematic_enc24.info_enc _)

theorem infoBits_setWidth_24 (c : BitVec 18) : infoBits 12 (c.setWidth 24) = (infoBits 6 c).setWidth 12 := by
  refine BitVec.eq_of_getLsbD_eq fun i hi => ?_
  simp only [infoBits, BitVec.getLsbD_extractLsb', BitVec.getLsbD_setWidth, hi, show 12 + i < 24 by omega,
    decide_true, Bool.true_and]
  rcases Nat.lt_or_ge i 6 with hlow | hhigh
  · simp [hlow]
  · rw [BitVec.getLsbD_of_ge c _ (by omega)]
    simp [show ¬ i < 6 by omega]

theorem infoBits_enc18 (m : BitVec 6) : infoBits 6 (enc18 m) = m := by
  have hinfo : (infoBits 6 (enc18 m)).setWidth 12 = m.setWidth 12 := by
    rw [← infoBits_setWidth_24, setWidth_enc18, systematic_enc24.info_enc]
  have hnarrow := congrArg (BitVec.setWidth 6) hinfo
  simpa using hnarrow

theorem setWidth_24_injective {a b : BitVec 18} (h : a.setWidth 24 = b.setWidth 24) : a = b := by
  simpa using congrArg (BitVec.setWidth 18) h

theorem systematic_enc18 : Systematic IsGolay18 enc18 where
  code_enc m := by rw [IsGolay18, setWidth_enc18]; exact systematic_enc24.code_enc _
  info_enc := infoBits_enc18
  enc_info c hc := setWidth_24_injective <| by
    rw [setWidth_enc18, ← infoBits_setWidth_24]; exact systematic_enc24.enc_info _ hc
  code_xor a b ha hb := by
    rw [IsGolay18, BitVec.setWidth_xor]; exact systematic_enc24.code_xor _ _ ha hb

/-! ## Encoders -/

/-- Settles O20: each encoder is systematic, and its words are the multiples of its generator. -/
theorem cyclicEncodersGiveMultiples : Obligations.CyclicEncodersGiveMultiples := by
  unfold Obligations.CyclicEncodersGiveMultiples
  refine ⟨fun v s hv hs => ?_, fun v s hs => ?_, fun v s hs => ?_⟩
  · exact ⟨_, pureCommand_run 12 v _ s hs hv, systematic_enc23.info_enc _, systematic_enc23.code_enc _⟩
  · exact ⟨_, pureCommand_full 16 v _ s hs, systematic_enc63.info_enc _, systematic_enc63.code_enc _⟩
  · exact ⟨_, pureCommand_full 8 v _ s hs, systematic_encC16.info_enc _, systematic_encC16.code_enc _⟩

/-- Settles O21, likewise. -/
theorem extendedEncodersGiveEvenCodewords : Obligations.ExtendedEncodersGiveEvenCodewords := by
  unfold Obligations.ExtendedEncodersGiveEvenCodewords
  refine ⟨fun v s hv hs => ?_, fun v s hv hs => ?_, fun v s hs => ?_⟩
  · exact ⟨_, pureCommand_run 12 v _ s hs hv, systematic_enc24.info_enc _, systematic_enc24.code_enc _⟩
  · exact ⟨_, pureCommand_run 6 v _ s hs hv, systematic_enc18.info_enc _, systematic_enc18.code_enc _⟩
  · exact ⟨_, pureCommand_full 16 v _ s hs, systematic_enc64.info_enc _, systematic_enc64.code_enc _⟩

/-! ## SYNCCHK -/

/-- A distance in the low bits and the correlate bit above it (R335). -/
theorem syncValue_fields {d : Nat} (hd : d ≤ 48) (b : Bool) :
    ((((if b then 1 else 0) <<< 6) ||| BitVec.ofNat 7 d).getLsbD 6 = b) ∧
    ((((if b then 1 else 0) <<< 6) ||| BitVec.ofNat 7 d).extractLsb' 0 6).toNat = d := by
  have hall : ∀ d ≤ 48, ∀ b : Bool,
      ((((if b then 1 else 0) <<< 6) ||| BitVec.ofNat 7 d).getLsbD 6 = b) ∧
      ((((if b then 1 else 0) <<< 6) ||| BitVec.ofNat 7 d).extractLsb' 0 6).toNat = d := by decide
  exact hall d hd b

theorem differences_le {n : Nat} (a b : BitVec n) : differences a b ≤ n :=
  (List.length_filter_le ..).trans List.length_range.le

theorem syncValue_spec (w : BitVec 48) :
    (syncValue w).getLsbD 6 = correlates w ∧ ((syncValue w).extractLsb' 0 6).toNat = dist w frameSync := by
  have hle : dist w frameSync ≤ 48 := by
    rw [dist_eq_differences]
    exact differences_le w frameSync
  rw [syncValue]
  generalize dist w frameSync = d at hle
  generalize correlates w = b
  exact syncValue_fields hle b

/-- Settles O19. -/
theorem syncCheckReportsDistance : Obligations.SyncCheckReportsDistance := by
  unfold Obligations.SyncCheckReportsDistance
  intro w s hs
  obtain ⟨hcorr, hvalue⟩ := syncValue_spec w
  refine ⟨syncValue w, pureCommand_full 48 w _ s hs, ?_, ?_⟩
  · rw [hcorr, SyncSearch.correlates_iff, Nat.lt_succ_iff]
  · exact hvalue.trans (dist_eq_differences w frameSync)

/-! ## Golay(23,12) is perfect -/

/-- The check that a predicate holds of all sums of rows with a start, on numbers. -/
def holdsOnSums (p : Nat → Bool) : List Nat → Nat → Bool
  | [], c => p c
  | g :: gs, c => holdsOnSums p gs c && holdsOnSums p gs (c ^^^ g)

theorem of_holdsOnSums {n : Nat} {p : Nat → Bool} {rows : List (BitVec n)} {c x : BitVec n}
    (h : holdsOnSums p (rows.map BitVec.toNat) c.toNat = true) (hx : x ∈ sums rows c) : p x.toNat = true := by
  induction rows generalizing c with
  | nil => rw [List.mem_singleton.mp hx]; exact h
  | cons g rows ih =>
    rw [List.map_cons, holdsOnSums, Bool.and_eq_true] at h
    rcases List.mem_append.mp hx with hx | hx
    · exact ih h.1 hx
    · exact ih (by rw [BitVec.toNat_xor]; exact h.2) hx

/-- The generator rows of Golay(23,12), as numbers. -/
def golay23Rows : List Nat :=
  [4195898, 2097949, 1050548, 525274, 262637, 132812, 66406, 33203, 18147, 9547, 5279, 3189]

theorem golay23Rows_eq : (generatorRows enc23).map BitVec.toNat = golay23Rows := by decide +kernel

theorem golay23_weights : holdsOnSums (fun c => Nat.beq c 0 || Nat.ble 7 (countOnes 6 c))
    golay23Rows 0 = true := by
  decide +kernel

theorem isGolay23_zero : IsGolay23 0 := isMultiple_zero 12 golayGen

/-- Golay(23,12) has minimum distance 7 (R152). -/
theorem separated_golay23 : Separated IsGolay23 3 := by
  intro c hc hne
  have hmem : c ∈ sums (generatorRows enc23) 0 := (systematic_enc23.mem_sums_iff isGolay23_zero).mpr hc
  have hweights := golay23_weights
  rw [← golay23Rows_eq] at hweights
  have hcheck := of_holdsOnSums hweights hmem
  have hpop : popcount c = ones c := popcount_eq c
  rw [Bool.or_eq_true, Nat.beq_eq, Nat.ble_eq] at hcheck
  rcases hcheck with hzero | hge
  · exact absurd (BitVec.eq_of_toNat_eq hzero) hne
  · rw [← hpop]; exact hge

theorem separated_golay24 : Separated IsGolay24 3 := separated_evenExtension separated_golay23

theorem ones_setWidth_24 (c : BitVec 18) : ones (c.setWidth 24) = ones c := by
  have happend : c.setWidth 24 = (0 : BitVec 6) ++ c := by
    refine BitVec.eq_of_getLsbD_eq fun i hi => ?_
    rw [BitVec.getLsbD_setWidth, BitVec.getLsbD_append]
    rcases Nat.lt_or_ge i 18 with hlow | hhigh
    · simp [hi, hlow]
    · simp [BitVec.getLsbD_of_ge c i hhigh]
  rw [happend, ones_append, ones_eq_zero_iff.mpr rfl, Nat.zero_add]

theorem separated_golay18 : Separated IsGolay18 3 := by
  intro c hc hne
  have hne' : c.setWidth 24 ≠ 0 := fun h => hne (setWidth_24_injective h)
  exact ones_setWidth_24 c ▸ separated_golay24 _ hc hne'

theorem separated_cyclic16 : Separated IsCyclic16 2 := by
  rintro c ⟨q, rfl⟩ hne
  refine five_le_ones_polyProduct_cyc16Gen q fun hq => hne ?_
  rw [hq]
  rfl

/-- The set of the sums of `s` with at most `t` of the given numbers, as a mask. -/
def sumsMask : Nat → List Nat → Nat → Nat
  | _, [], s => 1 <<< s
  | 0, _ :: _, s => 1 <<< s
  | t + 1, c :: cs, s => sumsMask (t + 1) cs s ||| sumsMask t cs (s ^^^ c)

/-- A number in the mask is the image of a word of that weight, for a linear map `f`. -/
theorem exists_of_testBit_sumsMask {n m : Nat} {f : BitVec n → BitVec m} (hf : ∀ a b, f (a ^^^ b) = f a ^^^ f b)
    {t x : Nat} {es : List (BitVec n)} {e : BitVec n} (hes : ∀ g ∈ es, ones g = 1)
    (h : (sumsMask t (es.map fun g => (f g).toNat) (f e).toNat).testBit x = true) :
    ∃ e', ones e' ≤ t + ones e ∧ (f e').toNat = x := by
  induction es generalizing t e with
  | nil =>
    rw [List.map_nil, sumsMask, Nat.one_shiftLeft, Nat.testBit_two_pow, decide_eq_true_iff] at h
    exact ⟨e, by omega, h⟩
  | cons g es ih =>
    obtain ⟨hg, hes⟩ := List.forall_mem_cons.mp hes
    cases t with
    | zero =>
      rw [List.map_cons, sumsMask, Nat.one_shiftLeft, Nat.testBit_two_pow, decide_eq_true_iff] at h
      exact ⟨e, by omega, h⟩
    | succ t =>
      rw [List.map_cons, sumsMask, Nat.testBit_or, Bool.or_eq_true, ← BitVec.toNat_xor, ← hf] at h
      rcases h with h | h
      · exact ih hes h
      · obtain ⟨e', hle, he'⟩ := ih hes h
        have := ones_xor_le e g
        exact ⟨e', by omega, he'⟩

/-- What a word's low bits differ by from the codeword of its information bits. -/
def residue23 (e : BitVec 23) : BitVec 23 := e ^^^ enc23 (infoBits 12 e)

theorem residue23_xor (a b : BitVec 23) : residue23 (a ^^^ b) = residue23 a ^^^ residue23 b := by
  rw [residue23, residue23, residue23, infoBits_xor, systematic_enc23.enc_xor]
  ac_rfl

theorem residue23_lt (e : BitVec 23) : (residue23 e).toNat < 2048 := by
  have hinfo : infoBits 12 (residue23 e) = 0 := by
    rw [residue23, infoBits_xor, systematic_enc23.info_enc, BitVec.xor_self]
    rfl
  have hnum := congrArg BitVec.toNat hinfo
  rw [infoBits, BitVec.extractLsb'_toNat, Nat.shiftRight_eq_div_pow] at hnum
  have hlt := (residue23 e).isLt
  simp at hnum
  omega

/-- The residues of the 23 single errors. -/
def golay23Columns : List Nat :=
  [1, 2, 4, 8, 16, 32, 64, 128, 256, 512, 1024, 1141, 1183, 1355, 1763, 435, 870, 1740, 493, 986, 1972, 797, 1594]

theorem golay23Columns_eq : ((List.range 23).map (BitVec.twoPow 23)).map (fun g => (residue23 g).toNat) =
    golay23Columns := by decide +kernel

/-- Every residue is that of at most three errors. -/
theorem sumsMask_golay23 : sumsMask 3 golay23Columns 0 = 2 ^ 2048 - 1 := by decide +kernel

/-- Every word is within 3 bits of a codeword: Golay(23,12) is perfect. -/
theorem golay23_covers (r : BitVec 23) : ∃ c, IsGolay23 c ∧ differences c r ≤ 3 := by
  have hmask : (sumsMask 3 (((List.range 23).map (BitVec.twoPow 23)).map fun g => (residue23 g).toNat)
      (residue23 0).toNat).testBit (residue23 r).toNat = true := by
    rw [golay23Columns_eq, show (residue23 0).toNat = 0 by decide +kernel, sumsMask_golay23,
      Nat.testBit_two_pow_sub_one, decide_eq_true_iff]
    exact residue23_lt r
  have hweight : ∀ g ∈ (List.range 23).map (BitVec.twoPow 23), ones g = 1 := by
    intro g hg
    obtain ⟨i, hi, rfl⟩ := List.mem_map.mp hg
    exact ones_twoPow (List.mem_range.mp hi)
  obtain ⟨e, hle, he⟩ := exists_of_testBit_sumsMask residue23_xor hweight hmask
  have hzero : residue23 (r ^^^ e) = 0 := by
    rw [residue23_xor, BitVec.eq_of_toNat_eq he, BitVec.xor_self]
    rfl
  refine ⟨r ^^^ e, ?_, ?_⟩
  · rw [BitVec.xor_eq_zero_iff.mp hzero]
    exact systematic_enc23.code_enc _
  · rw [differences_eq_ones, BitVec.xor_comm r e, BitVec.xor_assoc, BitVec.xor_self, BitVec.xor_zero]
    rwa [ones_eq_zero_iff.mpr rfl] at hle

/-! ## Decoders by search -/

/-- Settles O23: each decoder searches its code, and Golay(23,12) covers every word. -/
theorem golayAndCyclicDecodersAreBoundedDistance : Obligations.GolayAndCyclicDecodersAreBoundedDistance := by
  unfold Obligations.GolayAndCyclicDecodersAreBoundedDistance
  refine ⟨fun v s hv hs => ?_, fun v s hs => ?_, fun v s hv hs => ?_, fun v s hs => ?_⟩
  · have hdec := systematic_enc23.decodes_bdd 3 (v.setWidth 23)
    exact ⟨_, pureCommand_run 23 v _ s hs hv, hdec.boundedDistance, hdec.status_ok (golay23_covers _)⟩
  · exact ⟨_, pureCommand_full 24 v _ s hs, (systematic_enc24.decodes_bdd 3 v).boundedDistance⟩
  · exact ⟨_, pureCommand_run 18 v _ s hs hv, (systematic_enc18.decodes_bdd 3 _).boundedDistance⟩
  · exact ⟨_, pureCommand_full 16 v _ s hs, (systematic_encC16.decodes_bdd 2 v).boundedDistance⟩

/-- Settles O24, likewise. -/
theorem bchDecodersAreBoundedDistance : Obligations.BchDecodersAreBoundedDistance := by
  unfold Obligations.BchDecodersAreBoundedDistance
  refine ⟨fun v s hv hs => ?_, fun v s hs => ?_⟩
  · exact ⟨_, pureCommand_run 63 v _ s hs hv, (systematic_enc63.decodes_bdd 11 _).boundedDistance⟩
  · exact ⟨_, pureCommand_full 64 v _ s hs, (systematic_enc64.decodes_bdd 11 v).boundedDistance⟩

/-! ## The NID -/

theorem extractLsb'_nidWord (nac : BitVec 12) (duid : BitVec 4) :
    (nidWord nac duid).extractLsb' 1 63 = enc63 (nac ++ duid) := extractLsb'_extendEven _

/-- The NID validator finds a NAC and a DUID whose codeword is within 11 bits of the 63 BCH bits, or there are none
(R163, R166). -/
theorem nidValidate_cases (nid : BitVec 64) :
    (∃ nac duid, differences ((nidWord nac duid).extractLsb' 1 63) (nid.extractLsb' 1 63) ≤ 11 ∧
      nidValidate nid = .ok (nac ++ duid) (nidWord nac duid)
        (differences ((nidWord nac duid).extractLsb' 1 63) (nid.extractLsb' 1 63))) ∨
    ((∀ nac duid, 11 < differences ((nidWord nac duid).extractLsb' 1 63) (nid.extractLsb' 1 63)) ∧
      nidValidate nid = .fail) := by
  obtain ⟨c, hc, hle, heq⟩ | ⟨hnone, heq⟩ := systematic_enc63.decodes_bdd 11 (nid.extractLsb' 1 63)
  · left
    have hc' := systematic_enc63.enc_info c hc
    refine ⟨(infoBits 16 c).extractLsb' 4 12, (infoBits 16 c).extractLsb' 0 4, ?_⟩
    rw [extractLsb'_nidWord, nidWord, Feeds.nac_append_duid, hc']
    refine ⟨hle, ?_⟩
    simp only [nidValidate, nidValidateWith, nidParityCheck, dec63, heq]
    rfl
  · right
    refine ⟨fun nac duid => extractLsb'_nidWord nac duid ▸ hnone _ (systematic_enc63.code_enc _), ?_⟩
    simp only [nidValidate, nidValidateWith, nidParityCheck, dec63, heq]
    rfl

/-- Settles O25. -/
theorem nidCheckIgnoresParityBit : Obligations.NidCheckIgnoresParityBit := by
  unfold Obligations.NidCheckIgnoresParityBit
  intro v s hs
  have hexec : exec (.nidchk v) s = .next (respond (decodedResponse (nidValidate v)) s) :=
    pureCommand_full 64 v _ s hs
  obtain ⟨nac, duid, hle, heq⟩ | ⟨hnone, heq⟩ := nidValidate_cases v <;> rw [heq] at hexec
  · exact .inl ⟨nac, duid, hle, hexec⟩
  · exact .inr ⟨hnone, hexec⟩

theorem extractLsb'_nac (nac : BitVec 12) (duid : BitVec 4) : (nac ++ duid).extractLsb' 4 12 = nac := by
  rw [Control.extractLsb'_append_high (a := 0), BitVec.extractLsb'_eq_self]

theorem extractLsb'_duid (nac : BitVec 12) (duid : BitVec 4) : (nac ++ duid).extractLsb' 0 4 = duid :=
  Control.extractLsb'_append_low nac duid

/-- Settles O42: the NID step validates the NID and runs the row of the DUID that it finds. -/
theorem feedResolvesNid : Obligations.FeedResolvesNid := by
  unfold Obligations.FeedResolvesNid
  intro v s nid hv hst hlen hnid
  have hpos : (fed s v).length = 57 := by simp [fed, hlen]
  obtain ⟨nac, duid, hle, heq⟩ | ⟨hnone, heq⟩ := nidValidate_cases nid <;> rw [← hnid] at heq
  · refine .inl ⟨nac, duid, hle, ?_⟩
    rw [Feeds.exec_feed_nid_ok hv hst hlen heq, extractLsb'_nac, extractLsb'_duid,
      Feeds.duidRow_eq_dispatched (s := { s with fbuf := fed s v }) hst hpos, hnid]
  · exact .inr ⟨hnone, Feeds.exec_feed_nid_fail hv hst hlen heq⟩

end Sys2Proof.CodeCommands

/-!
PROOFS. The Hamming codes (40 R170 to R175), whatever the OPEN matrices are: the syndrome is the sum of the parity-check
columns at the ones of a word, so a single error is at the position of its column.
-/

namespace Sys2Proof.Hamming

open Sys2Proof.Machine Sys2Proof.Safety Sys2Proof.Parameters Sys2Proof.BinaryCodes

/-! ## Sums of columns -/

/-- Adding up what two selections select, each once, adds up both sums. -/
theorem foldl_select_xor {n : Nat} (s : Nat → BitVec n) (p q : Nat → Bool) (l : List Nat) (a b : BitVec n) :
    l.foldl (fun acc i => if p i ^^ q i then acc ^^^ s i else acc) (a ^^^ b) =
      l.foldl (fun acc i => if p i then acc ^^^ s i else acc) a ^^^
      l.foldl (fun acc i => if q i then acc ^^^ s i else acc) b := by
  induction l generalizing a b with
  | nil => rfl
  | cons i l ih => rw [List.foldl_cons, List.foldl_cons, List.foldl_cons, ← ih, addShift_xor]

theorem columnSum_eq_foldl {n : Nat} (columns : List Nibble) (c : BitVec n) :
    columnSum columns c =
      (List.range n).foldl (fun acc q => if c.getMsbD q then acc ^^^ columns.getD q 0 else acc) 0 := by
  rw [columnSum, List.foldl_filter]

theorem columnSum_xor {n : Nat} (columns : List Nibble) (a b : BitVec n) :
    columnSum columns (a ^^^ b) = columnSum columns a ^^^ columnSum columns b := by
  simp only [columnSum_eq_foldl, BitVec.getMsbD_xor]
  exact foldl_select_xor (fun q => columns.getD q 0) a.getMsbD b.getMsbD (List.range n) 0 0

theorem columnSum_zero {n : Nat} (columns : List Nibble) : columnSum columns (0 : BitVec n) = 0 := by
  have h := columnSum_xor columns (0 : BitVec n) 0
  rwa [BitVec.xor_self, BitVec.xor_self] at h

theorem ones_zero (n : Nat) : ones 0#n = 0 := ones_eq_zero_iff.mpr rfl

/-- A single one selects its column. -/
theorem columnSum_twoPow {n q : Nat} (columns : List Nibble) (hq : q < n) :
    columnSum columns (BitVec.twoPow n (n - 1 - q)) = columns.getD q 0 := by
  have hbit : ∀ i ∈ List.range n, (BitVec.twoPow n (n - 1 - q)).getMsbD i = (i == q) := by
    intro i hi
    have hi := List.mem_range.mp hi
    by_cases hiq : i = q
    · simp [BitVec.getMsbD, hiq]; omega
    · have hne : n - 1 - q ≠ n - 1 - i := by omega
      simp [BitVec.getMsbD, hne, hiq]
  have hselect := foldl_select (fun q => columns.getD q 0) (List.nodup_range (n := n)) (j := q) 0
  rw [columnSum, List.filter_congr hbit, List.foldl_filter, hselect, if_pos (List.mem_range.mpr hq)]
  exact BitVec.zero_xor

/-- The columns of a single error sum to the one at its position. -/
theorem columnSum_of_ones_eq_one {n : Nat} (columns : List Nibble) {e : BitVec n} (he : ones e = 1) :
    ∃ q < n, columnSum columns e = columns.getD q 0 := by
  obtain ⟨i, hi, rfl⟩ := exists_twoPow_of_ones_eq_one he
  have hpos : n - 1 - (n - 1 - i) = i := by omega
  refine ⟨n - 1 - i, by omega, ?_⟩
  have hcolumn := columnSum_twoPow (n := n) columns (q := n - 1 - i) (by omega)
  rwa [hpos] at hcolumn

/-- The identity columns give back the four parity bits. -/
theorem foldl_identity_columns : ∀ a w : Nibble,
    (List.range 4).foldl (fun acc i => if w.getLsbD (3 - i) then acc ^^^ [8, 4, 2, 1].getD i 0 else acc) a =
      a ^^^ w := by
  decide

theorem infoBits_add_four {k : Nat} (r : BitVec (k + 4)) : infoBits k r = r.extractLsb' 4 k := by
  rw [infoBits, Nat.add_sub_cancel_left]

theorem hammingSyndrome_encode {k : Nat} (P : List Nibble) (m : BitVec k) :
    hammingSyndrome P (hammingEncode P m) = 0 := by
  have hlow : (hammingEncode P m).setWidth 4 = hammingParity P m := by
    rw [hammingEncode, BitVec.setWidth_append]
    simp
  rw [hammingSyndrome, hlow, hammingEncode, Control.extractLsb'_append_high (a := 0), BitVec.extractLsb'_eq_self,
    BitVec.xor_self]
  rfl

/-- The ones of a word, counted from the other end. -/
theorem length_filter_getMsbD {n : Nat} (c : BitVec n) : ((List.range n).filter c.getMsbD).length = ones c := by
  have hrev : (List.range n).reverse = (List.range n).map fun i => n - 1 - i := by
    rw [List.range_eq_range', List.reverse_range', ← List.range_eq_range']
    simp
  rw [← List.length_reverse, ← List.filter_reverse, hrev, List.filter_map, List.length_map, ones]
  refine congrArg List.length (List.filter_congr fun i hi => ?_)
  have hi := List.mem_range.mp hi
  rw [Function.comp_apply, BitVec.getMsbD, show n - 1 - (n - 1 - i) = i by omega]
  simp [show n - 1 - i < n by omega]

section Code

variable {k : Nat} {P : List Nibble} (hP : P.length = k)
include hP

/-- The syndrome is the sum of the columns at the ones of the word (R170). -/
theorem columnSum_hammingColumns (r : BitVec (k + 4)) :
    columnSum (hammingColumns P) r = hammingSyndrome P r := by
  have hinfo : (List.range k).foldl
      (fun acc q => if r.getMsbD q then acc ^^^ (hammingColumns P).getD q 0 else acc) 0 =
      hammingParity P (r.extractLsb' 4 k) := by
    refine List.foldl_ext _ _ _ fun acc i hi => ?_
    have hi := List.mem_range.mp hi
    have hbit : r.getMsbD i = (r.extractLsb' 4 k).getLsbD (k - 1 - i) := by
      simp [BitVec.getMsbD, show i < k + 4 by omega, show k - 1 - i < k by omega,
        show k + 3 - i = 4 + (k - 1 - i) by omega]
    rw [hbit, hammingColumns, List.getD_append _ _ _ _ (by omega)]
  have hparity (a : Nibble) : ((List.range 4).map (k + ·)).foldl
      (fun acc q => if r.getMsbD q then acc ^^^ (hammingColumns P).getD q 0 else acc) a = a ^^^ r.setWidth 4 := by
    rw [List.foldl_map, ← foldl_identity_columns a (r.setWidth 4)]
    refine List.foldl_ext _ _ _ fun acc i hi => ?_
    have hi := List.mem_range.mp hi
    have hbit : r.getMsbD (k + i) = (r.setWidth 4).getLsbD (3 - i) := by
      simp [BitVec.getMsbD, show i < 4 by omega, show 3 - i < 4 by omega, show k + 3 - (k + i) = 3 - i by omega]
    rw [hbit, hammingColumns, List.getD_append_right _ _ _ _ (by omega), hP, Nat.add_sub_cancel_left]
  rw [columnSum_eq_foldl, List.range_add, List.foldl_append, hinfo, hparity, hammingSyndrome, BitVec.xor_comm]

/-- The words without a syndrome are the encoder's (R170). -/
theorem systematic_hammingEncode :
    Systematic (fun c : BitVec (k + 4) => columnSum (hammingColumns P) c = 0) (hammingEncode P) where
  code_enc m := (columnSum_hammingColumns hP _).trans (hammingSyndrome_encode P m)
  info_enc m := by
    rw [infoBits_add_four, hammingEncode, Control.extractLsb'_append_high (a := 0), BitVec.extractLsb'_eq_self]
  enc_info c hc := by
    rw [columnSum_hammingColumns hP, hammingSyndrome] at hc
    replace hc := BitVec.xor_eq_zero_iff.mp hc
    rw [infoBits_add_four, hammingEncode, ← hc]
    refine BitVec.eq_of_getLsbD_eq fun i hi => ?_
    rw [BitVec.getLsbD_append]
    split
    · next hlow => simp [hlow]
    · next hhigh => simp [show i - 4 < k by omega, show 4 + (i - 4) = i by omega]
  code_xor a b ha hb := by rw [columnSum_xor, ha, hb]; rfl

theorem hammingColumns_getD_mem {q : Nat} (hq : q < k + 4) :
    (hammingColumns P).getD q 0 ∈ hammingColumns P := by
  have hlen : (hammingColumns P).length = k + 4 := by simp [hammingColumns, hP]
  rw [List.getD_eq_getElem _ _ (hlen.symm ▸ hq)]
  exact List.getElem_mem _

/-- The Hamming decoder is a bounded-distance decoder at radius 1 (R170). -/
theorem decodes_hammingDecode (r : BitVec (k + 4)) :
    Decodes (fun c => columnSum (hammingColumns P) c = 0) 1 r (hammingDecode P r) := by
  have hsyn := columnSum_hammingColumns hP r
  simp only [hammingDecode]
  by_cases hs : hammingSyndrome P r = 0
  · rw [if_pos hs]
    refine .inl ⟨r, hsyn.trans hs, ?_, ?_⟩
    · rw [differences_eq_ones, BitVec.xor_self, ones_zero]; decide
    · rw [infoBits_add_four, differences_eq_ones, BitVec.xor_self, ones_zero]
  · rw [if_neg hs]
    cases hfind : (hammingColumns P).findIdx? (· = hammingSyndrome P r) with
    | some q =>
      obtain ⟨hq, hcolumn, -⟩ := List.findIdx?_eq_some_iff_getElem.mp hfind
      have hlen : (hammingColumns P).length = k + 4 := by simp [hammingColumns, hP]
      have hq' : q < k + 4 := hlen ▸ hq
      have hgetD : (hammingColumns P).getD q 0 = hammingSyndrome P r := by
        rw [List.getD_eq_getElem _ _ hq]; simpa using hcolumn
      have hdiff : differences (r ^^^ BitVec.twoPow (k + 4) (k + 4 - 1 - q)) r = 1 := by
        rw [differences_eq_ones, BitVec.xor_comm r, BitVec.xor_assoc, BitVec.xor_self, BitVec.xor_zero,
          ones_twoPow (by omega)]
      refine .inl ⟨r ^^^ BitVec.twoPow (k + 4) (k + 4 - 1 - q), ?_, hdiff.le, ?_⟩
      · show columnSum _ _ = 0
        rw [columnSum_xor, columnSum_twoPow _ hq', hgetD, hsyn, BitVec.xor_self]
        rfl
      · rw [hdiff, infoBits_add_four]
    | none =>
      refine .inr ⟨fun c hc => ?_, rfl⟩
      by_contra hle
      have hsum : columnSum (hammingColumns P) (c ^^^ r) = hammingSyndrome P r := by
        rw [columnSum_xor, hc, hsyn]
        exact BitVec.zero_xor
      rcases Nat.le_one_iff_eq_zero_or_eq_one.mp (Nat.not_lt.mp hle) with h | h <;> rw [differences_eq_ones] at h
      · rw [ones_eq_zero_iff.mp h] at hsum
        exact hs (hsum.symm.trans (columnSum_zero _))
      · obtain ⟨q, hq, hcolumn⟩ := columnSum_of_ones_eq_one (hammingColumns P) h
        have hnone := List.findIdx?_eq_none_iff.mp hfind _ (hammingColumns_getD_mem hP hq)
        rw [← hcolumn, hsum] at hnone
        simp at hnone

/-- The Hamming codes have minimum distance 3: no column is zero and no two are equal (R8). -/
theorem separated_hamming (hnodup : (hammingColumns P).Nodup) (hzero : 0 ∉ hammingColumns P) :
    Separated (fun c : BitVec (k + 4) => columnSum (hammingColumns P) c = 0) 1 := by
  intro c hc hne
  have hlen : (hammingColumns P).length = k + 4 := by simp [hammingColumns, hP]
  by_contra hle
  rw [← length_filter_getMsbD] at hle
  rw [columnSum] at hc
  have hpositions : ∀ q ∈ (List.range (k + 4)).filter c.getMsbD, q < k + 4 :=
    fun q hq => List.mem_range.mp (List.mem_filter.mp hq).1
  have hdistinct : ((List.range (k + 4)).filter c.getMsbD).Nodup := List.nodup_range.filter _
  match hL : (List.range (k + 4)).filter c.getMsbD with
  | [] => exact hne (ones_eq_zero_iff.mp (by rw [← length_filter_getMsbD, hL]; rfl))
  | [q] =>
    rw [hL] at hc hpositions
    have hq := hammingColumns_getD_mem hP (hpositions q (by simp))
    rw [show (hammingColumns P).getD q 0 = 0 by simpa using hc] at hq
    exact hzero hq
  | [q, p] =>
    rw [hL] at hc hpositions hdistinct
    have hq : q < (hammingColumns P).length := hlen.symm ▸ hpositions q (by simp)
    have hp : p < (hammingColumns P).length := hlen.symm ▸ hpositions p (by simp)
    have heq : (hammingColumns P)[q] = (hammingColumns P)[p] := by
      rw [← List.getD_eq_getElem _ 0 hq, ← List.getD_eq_getElem _ 0 hp]
      exact BitVec.xor_eq_zero_iff.mp (by simpa using hc)
    have hqp : q ≠ p := by simpa using hdistinct
    exact hqp (hnodup.getElem_inj_iff.mp heq)
  | q :: p :: o :: L => rw [hL, List.length_cons, List.length_cons, List.length_cons] at hle; omega

end Code

/-! ## The two codes -/

theorem systematic_encH15 : Systematic IsHamming15 encH15 := systematic_hammingEncode (by simp [ham15P])

theorem systematic_encH10 : Systematic IsHamming10 encH10 := systematic_hammingEncode (by simp [ham10P])

theorem decodes_decH15 (r : BitVec 15) : Decodes IsHamming15 1 r (decH15 r) :=
  decodes_hammingDecode (by simp [ham15P]) r

theorem decodes_decH10 (r : BitVec 10) : Decodes IsHamming10 1 r (decH10 r) :=
  decodes_hammingDecode (by simp [ham10P]) r

theorem separated_hamming10 : Separated IsHamming10 1 :=
  have hcolumns := hammingColumns_nodup_nonzero ham10P_subperm
  separated_hamming (by simp [ham10P]) hcolumns.1 hcolumns.2

/-- The 15 columns are all the nonzero values (R8). -/
theorem mem_hammingColumns_ham15P {s : Nibble} (hs : s ≠ 0) : s ∈ hammingColumns ham15P := by
  obtain ⟨hnodup, hzero⟩ := hammingColumns_nodup_nonzero ham15P_subperm
  have hcard : (0 :: hammingColumns ham15P).toFinset = Finset.univ := by
    refine Finset.eq_univ_of_card _ ?_
    rw [List.toFinset_card_of_nodup (List.nodup_cons.mpr ⟨hzero, hnodup⟩), List.length_cons, ham15P_columns_length]
    decide
  have hmem : s ∈ (0 :: hammingColumns ham15P).toFinset := hcard ▸ Finset.mem_univ s
  exact (List.mem_cons.mp (List.mem_toFinset.mp hmem)).resolve_left hs

/-- Hamming(15,11) is perfect: every syndrome is a column, so the decoder does not fail. -/
theorem decH15_ne_fail (r : BitVec 15) : decH15 r ≠ .fail := by
  simp only [decH15, hammingDecode]
  split
  · exact nofun
  · next hs =>
    split
    · exact nofun
    · next hnone =>
      have hcolumn := List.findIdx?_eq_none_iff.mp hnone _ (mem_hammingColumns_ham15P hs)
      simp at hcolumn

/-- Settles O22. -/
theorem hammingEncodersSatisfyChecks : Obligations.HammingEncodersSatisfyChecks := by
  unfold Obligations.HammingEncodersSatisfyChecks
  refine ⟨fun v s hv hs => ?_, fun v s hv hs => ?_⟩
  · exact ⟨_, pureCommand_run 11 v _ s hs hv, systematic_encH15.info_enc _, systematic_encH15.code_enc _⟩
  · exact ⟨_, pureCommand_run 6 v _ s hs hv, systematic_encH10.info_enc _, systematic_encH10.code_enc _⟩

/-- Settles O26. -/
theorem hammingDecodersAreBoundedDistance : Obligations.HammingDecodersAreBoundedDistance := by
  unfold Obligations.HammingDecodersAreBoundedDistance
  refine ⟨fun v s hv hs => ?_, fun v s hv hs => ?_⟩
  · have hok : (decodedResponse (decH15 (v.setWidth 15))).status = .ok := by
      cases hdec : decH15 (v.setWidth 15) with
      | ok m c e => rfl
      | fail => exact absurd hdec (decH15_ne_fail _)
    exact ⟨_, pureCommand_run 15 v _ s hs hv, (decodes_decH15 _).boundedDistance, hok⟩
  · exact ⟨_, pureCommand_run 10 v _ s hs hv, (decodes_decH10 _).boundedDistance⟩

end Sys2Proof.Hamming

/-!
PROOFS. Words and their bits (00 R9, 20 R65 to R68, 30 R133): a word, its bit sequence and its symbols determine one
another, so that packing, cutting and concatenating are read off position by position.
-/

namespace Sys2Proof.Words

open Sys2Proof.Machine Sys2Proof.Safety

/-! ## A word and its bits -/

theorem bitsOf_getElem? {n i : Nat} (v : BitVec n) (hi : i < n) : (bitsOf v)[i]? = some (v.getMsbD i) := by
  rw [bitsOf, Memory.bits_getElem? hi, BitVec.getMsbD, BitVec.testBit_toNat]
  simp [hi]

theorem bitsOf_getD {n i : Nat} (v : BitVec n) (hi : i < n) : (bitsOf v).getD i false = v.getMsbD i := by
  rw [List.getD_eq_getElem?_getD, bitsOf_getElem? v hi, Option.getD_some]

/-- The bits of the word of a sequence are the sequence. -/
theorem bitsOf_ofNat_int {b : Bits} {n : Nat} (h : b.length = n) : bitsOf (BitVec.ofNat n (int b)) = b := by
  subst h
  rw [bitsOf, BitVec.toNat_ofNat, Nat.mod_eq_of_lt (int_lt b), bits_int]

theorem ofNat_int_bitsOf {n : Nat} (v : BitVec n) : BitVec.ofNat n (int (bitsOf v)) = v := by
  rw [SyncSearch.int_bitsOf, BitVec.ofNat_toNat, BitVec.setWidth_eq]

theorem bitsOf_injective {n : Nat} {v w : BitVec n} (h : bitsOf v = bitsOf w) : v = w := by
  rw [← ofNat_int_bitsOf v, h, ofNat_int_bitsOf]

theorem getMsbD_ofNat_int {b : Bits} {n i : Nat} (h : b.length = n) (hi : i < n) :
    (BitVec.ofNat n (int b)).getMsbD i = b.getD i false := by
  rw [← bitsOf_getD _ hi, bitsOf_ofNat_int h]

theorem getMsbD_extractLsb' {n a k i : Nat} (v : BitVec n) (h : a + k ≤ n) (hi : i < k) :
    (v.extractLsb' (n - a - k) k).getMsbD i = v.getMsbD (a + i) := by
  simp only [BitVec.getMsbD, BitVec.getLsbD_extractLsb', hi, show a + i < n by omega, show k - 1 - i < k by omega,
    decide_true, Bool.true_and, show n - a - k + (k - 1 - i) = n - 1 - (a + i) by omega]

/-- A part of a word is that part of its bits. -/
theorem bitsOf_extractLsb' {n a k : Nat} (v : BitVec n) (h : a + k ≤ n) :
    bitsOf (v.extractLsb' (n - a - k) k) = ((bitsOf v).drop a).take k := by
  refine List.ext_getElem? fun i => ?_
  rcases Nat.lt_or_ge i k with hi | hi
  · rw [bitsOf_getElem? _ hi, getMsbD_extractLsb' v h hi, List.getElem?_take_of_lt hi, List.getElem?_drop,
      bitsOf_getElem? v (by omega)]
  · rw [List.getElem?_eq_none (by simpa using hi), List.getElem?_eq_none (by simp; omega)]

/-! ## Symbols -/

theorem symbolBits_getElem? {w : Nat} {l : List (BitVec w)} {i j : Nat} {x : BitVec w} (hx : l[i]? = some x)
    (hj : j < w) : (symbolBits l)[w * i + j]? = some (x.getMsbD j) := by
  induction l generalizing i with
  | nil => simp at hx
  | cons y l ih =>
    rw [symbolBits_cons]
    cases i with
    | zero =>
      obtain rfl : y = x := by simpa using hx
      rw [Nat.mul_zero, Nat.zero_add, List.getElem?_append_left (by simpa using hj), bitsOf_getElem? y hj]
    | succ i =>
      rw [List.getElem?_append_right (by simp [Nat.mul_succ]; omega), bitsOf_length,
        show w * (i + 1) + j - w = w * i + j by rw [Nat.mul_succ]; omega]
      exact ih (by simpa using hx)

theorem symbolBits_append {w : Nat} (l l' : List (BitVec w)) :
    symbolBits (l ++ l') = symbolBits l ++ symbolBits l' := List.flatMap_append

@[simp] theorem unpack_length {n : Nat} (w k : Nat) (v : BitVec n) : (unpack w k v).length = k := by simp [unpack]

theorem unpack_getElem? {n w k i : Nat} (v : BitVec n) (hi : i < k) :
    (unpack w k v)[i]? = some (v.extractLsb' (w * (k - 1 - i)) w) := by simp [unpack, hi]

/-- A word's symbols, one after the other, are its bits (R133). -/
theorem symbolBits_unpack {w k : Nat} (v : BitVec (w * k)) : symbolBits (unpack w k v) = bitsOf v := by
  refine List.ext_getElem? fun q => ?_
  rcases Nat.lt_or_ge q (w * k) with hq | hq
  · have hw : 0 < w := Nat.pos_of_ne_zero fun h => by simp [h] at hq
    have hi : q / w < k := Nat.div_lt_of_lt_mul hq
    have hj : q % w < w := Nat.mod_lt q hw
    have hpos : w * (k - 1 - q / w) = w * k - w * (q / w) - w := by
      rw [Nat.mul_sub, Nat.mul_sub, Nat.mul_one]; omega
    have hend : w * (q / w) + w ≤ w * k := by rw [← Nat.mul_succ]; exact Nat.mul_le_mul_left w hi
    have hbit := symbolBits_getElem? (unpack_getElem? (w := w) v hi) hj
    rw [Nat.div_add_mod, hpos, getMsbD_extractLsb' v hend hj, Nat.div_add_mod] at hbit
    rw [hbit, bitsOf_getElem? v hq]
  · rw [List.getElem?_eq_none (by simp [symbolBits_length, hq]), List.getElem?_eq_none (by simpa using hq)]

/-- Symbols are determined by their bits. -/
theorem symbolBits_injective {w : Nat} {l l' : List (BitVec w)} (hlen : l.length = l'.length)
    (h : symbolBits l = symbolBits l') : l = l' := by
  induction l generalizing l' with
  | nil => exact (List.length_eq_zero_iff.mp hlen.symm).symm
  | cons x l ih =>
    obtain ⟨x', l', rfl⟩ := List.exists_cons_of_length_eq_add_one hlen.symm
    rw [symbolBits_cons, symbolBits_cons] at h
    obtain ⟨hx, hl⟩ := List.append_inj h (by simp)
    rw [bitsOf_injective hx, ih (by simpa using hlen) hl]

/-- One more symbol moves the word up and stands below it (R133). -/
theorem shiftLeft_or_ofNat {n w : Nat} (m : Nat) (x : BitVec w) :
    (BitVec.ofNat n m <<< w) ||| x.setWidth n = BitVec.ofNat n (2 ^ w * m + x.toNat) := by
  have hdisjoint : BitVec.ofNat n m <<< w &&& x.setWidth n = 0#n := by
    refine BitVec.eq_of_getLsbD_eq fun i hi => ?_
    rcases Nat.lt_or_ge i w with hlow | hhigh
    · simp [hlow]
    · simp [BitVec.getLsbD_of_ge x i hhigh]
  rw [← BitVec.add_eq_or_of_and_eq_zero _ _ hdisjoint]
  apply BitVec.eq_of_toNat_eq
  simp only [BitVec.toNat_add, BitVec.toNat_shiftLeft, BitVec.toNat_ofNat, BitVec.toNat_setWidth, Nat.shiftLeft_eq,
    Nat.mod_mul_mod, Nat.add_mod_mod, Nat.mod_add_mod, Nat.mul_comm m]

/-- A packed word is the number of its symbols' bits (R133). -/
theorem pack_eq {w : Nat} (n : Nat) (l : List (BitVec w)) : pack n l = BitVec.ofNat n (int (symbolBits l)) := by
  induction l using List.reverseRecOn with
  | nil => rfl
  | append_singleton l x ih =>
    have hpack : pack n (l ++ [x]) = (pack n l <<< w) ||| x.setWidth n := by simp [pack, List.foldl_append]
    rw [hpack, ih, shiftLeft_or_ofNat, symbolBits_append, SyncSearch.int_append, symbolBits_cons, symbolBits_nil,
      List.append_nil, bitsOf_length, SyncSearch.int_bitsOf]

theorem pack_unpack {w k : Nat} (v : BitVec (w * k)) : pack (w * k) (unpack w k v) = v := by
  rw [pack_eq, symbolBits_unpack, ofNat_int_bitsOf]

theorem unpack_pack {w k : Nat} {l : List (BitVec w)} (h : l.length = k) : unpack w k (pack (w * k) l) = l := by
  refine symbolBits_injective (by simp [h]) ?_
  rw [symbolBits_unpack, pack_eq, bitsOf_ofNat_int (by rw [symbolBits_length, h])]

/-- Symbol `i` of a packed word. -/
theorem extractLsb'_pack {w k i : Nat} {l : List (BitVec w)} (h : l.length = k) (hi : i < k) :
    (pack (w * k) l).extractLsb' (w * (k - 1 - i)) w = l.getD i 0 := by
  have hget := unpack_getElem? (w := w) (pack (w * k) l) hi
  rw [unpack_pack h] at hget
  rw [List.getD_eq_getElem?_getD, hget, Option.getD_some]

/-- Cutting a bit sequence into symbols is unpacking its word (R68, R133). -/
theorem symbols_eq_unpack {w k : Nat} {s : Bits} (h : s.length = w * k) (hw : 0 < w) :
    symbols w s = unpack w k (BitVec.ofNat (w * k) (int s)) := by
  rw [symbols, unpack, h, Nat.mul_div_cancel_left _ hw]
  refine List.map_congr_left fun i hi => ?_
  have hi := List.mem_range.mp hi
  have hend : w * i + w ≤ w * k := by rw [← Nat.mul_succ]; exact Nat.mul_le_mul_left w hi
  have hpos : w * (k - 1 - i) = w * k - w * i - w := by rw [Nat.mul_sub, Nat.mul_sub, Nat.mul_one]; omega
  refine bitsOf_injective ?_
  rw [hpos, bitsOf_extractLsb' _ hend, bitsOf_ofNat_int h, bitsOf_ofNat_int (by simp [h]; omega)]

/-- The octets of packed symbols (R68, R286). -/
theorem octets_symbolBits {w k n : Nat} {l : List (BitVec w)} (hl : l.length = k) (hn : w * k = 8 * n) :
    octets (symbolBits l) = octetsOf n (pack (8 * n) l) := by
  rw [octets, symbols_eq_unpack (k := n) (by rw [symbolBits_length, hl, hn]) (by decide), pack_eq]
  rfl

/-- The octets of a word (R68, R301). -/
theorem octets_bitsOf {n : Nat} (v : BitVec (8 * n)) : octets (bitsOf v) = octetsOf n v := by
  rw [octets, symbols_eq_unpack (k := n) (by simp) (by decide), ofNat_int_bitsOf]
  rfl

end Sys2Proof.Words

/-!
PROOFS. The trellis codes and the block interleaver (42), and the PDU block decode that runs them (43 R286).
-/

namespace Sys2Proof.TrellisPaths

open Sys2Proof.Machine Sys2Proof.Safety Sys2Proof.Words Sys2Proof.BinaryCodes Sys2Proof.Trellis

/-! ## The 49 codewords of a block -/

theorem nibbleAt_getMsbD {w : BitVec 196} {i j : Nat} (hi : i < 49) (hj : j < 4) :
    (nibbleAt w i).getMsbD j = w.getMsbD (4 * i + j) := by
  rw [nibbleAt, show 4 * (48 - i) = 196 - 4 * i - 4 by omega, getMsbD_extractLsb' w (by omega) hj]

/-- A block is determined by its codewords. -/
theorem eq_of_nibbleAt_eq {u t : BitVec 196} (h : ∀ i < 49, nibbleAt u i = nibbleAt t i) : u = t := by
  refine BitVec.eq_of_getMsbD_eq fun q hq => ?_
  have hi : q / 4 < 49 := by omega
  have hj : q % 4 < 4 := Nat.mod_lt q (by decide)
  have hbit := congrArg (fun x => x.getMsbD (q % 4)) (h (q / 4) hi)
  simpa only [nibbleAt_getMsbD hi hj, Nat.div_add_mod] using hbit

theorem nibbleAt_pack {l : List Nibble} (hl : l.length = 49) {i : Nat} (hi : i < 49) :
    nibbleAt (pack 196 l) i = l.getD i 0 :=
  extractLsb'_pack (w := 4) (k := 49) hl hi

theorem unpack_getD_nibbleAt (w : BitVec 196) {i : Nat} (hi : i < 49) : (unpack 4 49 w).getD i 0 = nibbleAt w i := by
  rw [List.getD_eq_getElem?_getD, unpack_getElem? w hi]
  rfl

/-! ## The encoder -/

/-- Codeword i is the table's entry for input i in the state that the input before it left (R230). -/
theorem trellisFrom_getD {b : Nat} (rows : List (List Nibble)) {xs : List (BitVec b)} {s : BitVec b} {i : Nat}
    (hi : i < xs.length) :
    (trellisFrom rows s xs).getD i 0 = nextCodeword rows ((s :: xs).getD i 0) (xs.getD i 0) := by
  induction xs generalizing s i with
  | nil => simp at hi
  | cons x xs ih =>
    cases i with
    | zero => rfl
    | succ i => exact ih (by simpa using hi)

theorem getD_concat_zero {b : Nat} (l : List (BitVec b)) (i : Nat) : (l ++ [0]).getD i 0 = l.getD i 0 := by
  rcases Nat.lt_trichotomy i l.length with hlt | rfl | hgt
  · rw [List.getD_append _ _ _ _ hlt]
  · simp
  · rw [List.getD_eq_default _ _ (by simp; omega), List.getD_eq_default _ _ hgt.le]

theorem trellisEncode_length {b : Nat} (rows : List (List Nibble)) (xs : List (BitVec b)) :
    (trellisEncode rows xs).length = xs.length + 1 := by simp [trellisEncode, trellisFrom_length]

/-- The encoder's codewords follow the table, with the flush symbol after the inputs (R230). -/
theorem isTrellisCoded_pack {b : Nat} (rows : List (List Nibble)) {xs : List (BitVec b)} (hxs : xs.length = 48) :
    IsTrellisCoded rows xs (pack 196 (trellisEncode rows xs)) := by
  intro i hi
  rw [nibbleAt_pack (by rw [trellisEncode_length, hxs]) hi, trellisEncode, trellisFrom_getD rows (by simp [hxs, hi]),
    getD_concat_zero, ← List.cons_append, getD_concat_zero]

/-- A block that follows the table is the encoder's. -/
theorem eq_pack_of_isTrellisCoded {b : Nat} {rows : List (List Nibble)} {xs : List (BitVec b)} {c : BitVec 196}
    (hxs : xs.length = 48) (h : IsTrellisCoded rows xs c) : c = pack 196 (trellisEncode rows xs) :=
  eq_of_nibbleAt_eq fun i hi => (h i hi).trans (isTrellisCoded_pack rows hxs i hi).symm

/-- Settles O30. -/
theorem trellisEncodersFollowTable : Obligations.TrellisEncodersFollowTable := by
  unfold Obligations.TrellisEncodersFollowTable
  refine ⟨fun v s hs => ?_, fun v s hs => ?_⟩
  · exact ⟨_, pureCommand_full 96 v _ s hs, isTrellisCoded_pack trellis12Rows (unpack_length ..)⟩
  · exact ⟨_, pureCommand_full 144 v _ s hs, isTrellisCoded_pack trellis34Rows (unpack_length ..)⟩

/-! ## The decoder's steps -/

/-- `x` is nearer to the received codeword than any other input of its state (R234). -/
def Nearest {b : Nat} (rows : List (List Nibble)) (s : BitVec b) (w : Nibble) (x : BitVec b) : Prop :=
  ∀ y, y ≠ x → differences w (nextCodeword rows s x) < differences w (nextCodeword rows s y)

/-- A bound of the start and of every value is a bound of the least. -/
theorem le_foldl_min {α : Type} {f : α → Nat} {l : List α} {m n : Nat} (hm : n ≤ m) (hl : ∀ x ∈ l, n ≤ f x) :
    n ≤ l.foldl (fun least x => min least (f x)) m := by
  induction l generalizing m with
  | nil => exact hm
  | cons x l ih =>
    obtain ⟨hx, hl⟩ := List.forall_mem_cons.mp hl
    exact ih (Nat.le_min.mpr ⟨hm, hx⟩) hl

/-- The decoder takes one input exactly when it is nearer than any other, and its distance is the smallest (R234). -/
theorem nearestInputs_eq_singleton_iff {b : Nat} {rows : List (List Nibble)} {s : BitVec b} {w : Nibble}
    {x : BitVec b} : nearestInputs rows s w = [x] ↔ Nearest rows s w x := by
  have hmem (y : BitVec b) :
      y ∈ nearestInputs rows s w ↔ differences w (nextCodeword rows s y) = leastDistance rows s w := by
    simp [nearestInputs, mem_allSymbols, dist_eq_differences]
  have hleast (y : BitVec b) : leastDistance rows s w ≤ differences w (nextCodeword rows s y) :=
    dist_eq_differences w _ ▸ leastDistance_le rows s y w
  constructor
  · intro h y hy
    have hx := (hmem x).mp (h ▸ List.mem_singleton_self x)
    have hne : differences w (nextCodeword rows s y) ≠ leastDistance rows s w := fun heq =>
      hy (List.mem_singleton.mp (h ▸ (hmem y).mpr heq))
    have := hleast y
    omega
  · intro h
    have hx : differences w (nextCodeword rows s x) = leastDistance rows s w := by
      refine le_antisymm ?_ (hleast x)
      refine le_foldl_min (CodeCommands.differences_le w _) fun y _ => ?_
      rw [dist_eq_differences]
      by_cases hyx : y = x
      · rw [hyx]
      · exact (h y hyx).le
    have hfilter : nearestInputs rows s w = (allSymbols b).filter (· == x) := by
      refine List.filter_congr fun y _ => ?_
      rw [Bool.eq_iff_iff, beq_iff_eq, beq_iff_eq, dist_eq_differences, ← hx]
      constructor
      · intro heq
        by_contra hyx
        exact absurd heq (h y hyx).ne'
      · rintro rfl; rfl
    rw [hfilter, List.filter_beq, List.count_eq_one_of_mem (allSymbols_nodup b) (mem_allSymbols x),
      List.replicate_one]

theorem leastDistance_eq {b : Nat} {rows : List (List Nibble)} {s : BitVec b} {w : Nibble} {x : BitVec b}
    (h : nearestInputs rows s w = [x]) : leastDistance rows s w = differences w (nextCodeword rows s x) := by
  have hx : x ∈ nearestInputs rows s w := h ▸ List.mem_singleton_self x
  rw [nearestInputs, List.mem_filter, beq_iff_eq, dist_eq_differences] at hx
  exact hx.2.symm

/-- The path `ys` from state `s`: every input is the nearest of its state (R234). -/
def NearestFrom {b : Nat} (rows : List (List Nibble)) (s : BitVec b) (ws : List Nibble) (ys : List (BitVec b)) : Prop :=
  ys.length = ws.length ∧ ∀ i < ws.length, Nearest rows ((s :: ys).getD i 0) (ws.getD i 0) (ys.getD i 0)

/-- The sum of a path's distances (R234). -/
def errorsFrom {b : Nat} (rows : List (List Nibble)) (s : BitVec b) (ws : List Nibble) (ys : List (BitVec b)) : Nat :=
  ((List.range ws.length).map fun i =>
    differences (ws.getD i 0) (nextCodeword rows ((s :: ys).getD i 0) (ys.getD i 0))).sum

theorem nearestFrom_cons {b : Nat} {rows : List (List Nibble)} {s y : BitVec b} {w : Nibble} {ws : List Nibble}
    {ys : List (BitVec b)} :
    NearestFrom rows s (w :: ws) (y :: ys) ↔ Nearest rows s w y ∧ NearestFrom rows y ws ys := by
  simp only [NearestFrom, List.length_cons, Nat.add_right_cancel_iff]
  constructor
  · rintro ⟨hlen, h⟩
    exact ⟨h 0 (by omega), hlen, fun i hi => h (i + 1) (by omega)⟩
  · rintro ⟨hy, hlen, h⟩
    refine ⟨hlen, fun i hi => ?_⟩
    cases i with
    | zero => exact hy
    | succ i => exact h i (by omega)

theorem errorsFrom_cons {b : Nat} {rows : List (List Nibble)} {s y : BitVec b} {w : Nibble} {ws : List Nibble}
    {ys : List (BitVec b)} :
    errorsFrom rows s (w :: ws) (y :: ys) = differences w (nextCodeword rows s y) + errorsFrom rows y ws ys := by
  simp only [errorsFrom, List.length_cons, List.range_succ_eq_map, List.map_cons, List.sum_cons, List.map_map]
  rfl

/-- The decoder's steps follow the nearest path, where there is one (R234). -/
theorem trellisSteps_eq_some_iff {b : Nat} {rows : List (List Nibble)} {s : BitVec b} {ws : List Nibble}
    {ys : List (BitVec b)} {e : Nat} :
    trellisSteps rows s ws = some (ys, e) ↔ NearestFrom rows s ws ys ∧ e = errorsFrom rows s ws ys := by
  induction ws generalizing s ys e with
  | nil =>
    constructor
    · intro h
      cases h
      exact ⟨⟨rfl, nofun⟩, rfl⟩
    · rintro ⟨⟨hlen, -⟩, rfl⟩
      rw [List.length_eq_zero_iff.mp hlen]
      rfl
  | cons w ws ih =>
    constructor
    · intro h
      rw [trellisSteps] at h
      split at h
      · next x hx =>
        split at h
        · next zs errs hrest =>
          cases h
          obtain ⟨hpath, rfl⟩ := ih.mp hrest
          exact ⟨nearestFrom_cons.mpr ⟨nearestInputs_eq_singleton_iff.mp hx, hpath⟩, by
            rw [errorsFrom_cons, leastDistance_eq hx]⟩
        · cases h
      · cases h
    · rintro ⟨hpath, rfl⟩
      obtain ⟨y, ys, rfl⟩ := List.exists_cons_of_length_eq_add_one hpath.1
      obtain ⟨hy, hrest⟩ := nearestFrom_cons.mp hpath
      have hinput := nearestInputs_eq_singleton_iff.mpr hy
      simp only [trellisSteps, hinput, ih.mpr ⟨hrest, rfl⟩, errorsFrom_cons, leastDistance_eq hinput]

/-! ## The nearest path of a block -/

theorem isNearestPath_iff {b : Nat} {rows : List (List Nibble)} {w : BitVec 196} {ys : List (BitVec b)} :
    IsNearestPath rows w ys ↔ NearestFrom rows 0 (unpack 4 49 w) ys := by
  simp only [IsNearestPath, NearestFrom, unpack_length]
  refine and_congr_right fun _ => forall₂_congr fun i hi => ?_
  rw [unpack_getD_nibbleAt w hi]
  rfl

theorem pathErrors_eq {b : Nat} (rows : List (List Nibble)) (w : BitVec 196) (ys : List (BitVec b)) :
    pathErrors rows w ys = errorsFrom rows 0 (unpack 4 49 w) ys := by
  rw [pathErrors, errorsFrom, unpack_length]
  refine congrArg List.sum (List.map_congr_left fun i hi => ?_)
  rw [unpack_getD_nibbleAt w (List.mem_range.mp hi)]

/-- A block decodes to its nearest path without the flush, the path's re-encoding and its errors; or there is no such
path and it fails (R234). -/
theorem trellisDecode_cases {b : Nat} (rows : List (List Nibble)) (w : BitVec 196) :
    (∃ ys : List (BitVec b), IsNearestPath rows w ys ∧ trellisDecode rows (unpack 4 49 w) =
      .ok (ys.take 48) (trellisEncode rows (ys.take 48)) (pathErrors rows w ys)) ∨
    ((∀ ys : List (BitVec b), ¬ IsNearestPath rows w ys) ∧
      (trellisDecode rows (unpack 4 49 w) : Decoded (List (BitVec b)) (List Nibble)) = .fail) := by
  cases hsteps : trellisSteps rows (0 : BitVec b) (unpack 4 49 w) with
  | some x =>
    obtain ⟨ys, e⟩ := x
    obtain ⟨hpath, he⟩ := trellisSteps_eq_some_iff.mp hsteps
    have hpath' := isNearestPath_iff.mpr hpath
    have hdrop : ys.dropLast = ys.take 48 := by rw [List.dropLast_eq_take, hpath'.1]
    refine .inl ⟨ys, hpath', ?_⟩
    simp only [trellisDecode, hsteps, hdrop, pathErrors_eq, he]
  | none =>
    refine .inr ⟨fun ys hpath => ?_, by simp only [trellisDecode, hsteps]⟩
    exact nomatch hsteps.symm.trans (trellisSteps_eq_some_iff.mpr ⟨isNearestPath_iff.mp hpath, rfl⟩)

theorem take_getD {b i : Nat} {ys : List (BitVec b)} (hi : i < 48) : (ys.take 48).getD i 0 = ys.getD i 0 := by
  rw [List.getD_eq_getElem?_getD, List.getElem?_take_of_lt hi, ← List.getD_eq_getElem?_getD]

theorem length_take_path {b : Nat} {rows : List (List Nibble)} {w : BitVec 196} {ys : List (BitVec b)}
    (h : IsNearestPath rows w ys) : (ys.take 48).length = 48 := by rw [List.length_take, h.1]; rfl

/-- The response of a trellis decode (R236, R238). -/
theorem trellisDecoded_response {b : Nat} (rows : List (List Nibble)) (w : BitVec 196) :
    TrellisDecoded (b := b) rows w
      (decodedResponse (trellisPacked (b := b) (b * 48) (trellisDecode rows (unpack 4 49 w)))) := by
  obtain ⟨ys, hpath, heq⟩ | ⟨hnone, heq⟩ := trellisDecode_cases (b := b) rows w <;> rw [heq]
  · have hlen := length_take_path hpath
    refine .inl ⟨ys, _, _, hpath, fun i hi => ?_, isTrellisCoded_pack rows hlen, rfl⟩
    exact (extractLsb'_pack hlen hi).trans (take_getD hi)
  · exact .inr ⟨hnone, rfl⟩

/-- Settles O31. -/
theorem trellisDecodersTakeNearestPath : Obligations.TrellisDecodersTakeNearestPath := by
  unfold Obligations.TrellisDecodersTakeNearestPath
  refine ⟨fun v s hv hs => ?_, fun v s hv hs => ?_⟩
  · exact ⟨_, pureCommand_run 196 v _ s hs hv, trellisDecoded_response (b := 2) trellis12Rows _⟩
  · exact ⟨_, pureCommand_run 196 v _ s hs hv, trellisDecoded_response (b := 3) trellis34Rows _⟩

/-! ## The interleaver -/

theorem blockIlv_eq_map_ilv : blockIlv = (List.range 49).map ilv := rfl

theorem ilv_lt : ∀ k < 49, ilv k < 49 := by decide

/-- Every place holds some codeword. -/
theorem exists_ilv : ∀ p < 49, ∃ k < 49, ilv k = p := by decide +kernel

/-- A list of parts of four, read at a position. -/
theorem flatMap_span_getElem? {l : List Nat} {k j p : Nat} (hk : l[k]? = some p) (hj : j < 4) :
    (l.flatMap fun p => span (4 * p) 4)[4 * k + j]? = some (4 * p + j) := by
  induction l generalizing k with
  | nil => simp at hk
  | cons q l ih =>
    rw [List.flatMap_cons]
    cases k with
    | zero =>
      obtain rfl : q = p := by simpa using hk
      rw [Nat.mul_zero, Nat.zero_add, List.getElem?_append_left (by simpa using hj)]
      simp [span, hj]
    | succ k =>
      rw [List.getElem?_append_right (by simp; omega), span_length, show 4 * (k + 1) + j - 4 = 4 * k + j by omega]
      exact ih (by simpa using hk)

theorem ilvPositions_getElem? {k j : Nat} (hk : k < 49) (hj : j < 4) :
    ilvPositions[4 * k + j]? = some (4 * ilv k + j) := by
  refine flatMap_span_getElem? ?_ hj
  rw [blockIlv_eq_map_ilv, List.getElem?_map, List.getElem?_range hk]
  rfl

theorem ilvPositions_length : ilvPositions.length = 196 := by decide +kernel

theorem ilvPositions_nodup : ilvPositions.Nodup := by decide +kernel

/-- What stands at codeword `k` of one word stands at codeword `p` of another. -/
theorem nibbleAt_eq_of_getMsbD {u t : BitVec 196} {k p : Nat} (hk : k < 49) (hp : p < 49)
    (h : ∀ j < 4, u.getMsbD (4 * k + j) = t.getMsbD (4 * p + j)) : nibbleAt u k = nibbleAt t p :=
  BitVec.eq_of_getMsbD_eq fun j hj => by rw [nibbleAt_getMsbD hk hj, nibbleAt_getMsbD hp hj, h j hj]

/-- BDILV gathers the block that stands interleaved in `t` (R241). -/
theorem deinterleaveBits_eq (t : BitVec 196) :
    ∃ n, deinterleaveBits (bitsOf t) = .ok n ∧ IsInterleaved (BitVec.ofNat 196 n) t := by
  have hrange : ∀ i ∈ ilvPositions, i < (bitsOf t).length :=
    fun i hi => (bitsOf_length t).symm ▸ Faults.mem_ilvPositions_lt hi
  refine ⟨_, gather_eq_ok hrange, fun k hk => ?_⟩
  refine nibbleAt_eq_of_getMsbD (ilv_lt k hk) hk fun j hj => ?_
  have hp := ilv_lt k hk
  rw [getMsbD_ofNat_int (by simp [ilvPositions_length]) (by omega), List.getD_eq_getElem?_getD, List.getElem?_map,
    ilvPositions_getElem? hk hj, Option.map_some, Option.getD_some, bitsOf_getD t (by omega)]

/-- BILV scatters the block to where it stands interleaved (R242). -/
theorem interleaveBits_eq (u : BitVec 196) :
    ∃ b, interleaveBits u = .ok b ∧ IsInterleaved u (BitVec.ofNat 196 (int b)) := by
  have hrange : ∀ i ∈ ilvPositions, i < (List.replicate blockBits false).length := fun i hi => by
    rw [List.length_replicate]; exact Faults.mem_ilvPositions_lt hi
  have hfits : u.toNat < 2 ^ ilvPositions.length := ilvPositions_length.symm ▸ u.isLt
  obtain ⟨b, hb, hlen, -, hbits, -⟩ :=
    (Memory.gatherUndoesScatter (List.replicate blockBits false) _ _ hfits).1 hrange ilvPositions_nodup
  have hlen' : b.length = 196 := by rw [hlen, List.length_replicate]; rfl
  refine ⟨b, hb, fun k hk => nibbleAt_eq_of_getMsbD (ilv_lt k hk) hk fun j hj => ?_⟩
  have hp := ilv_lt k hk
  have hbit := hbits (4 * k + j) (by rw [ilvPositions_length]; omega) _ (ilvPositions_getElem? hk hj)
  rw [getMsbD_ofNat_int hlen' (by omega), List.getD_eq_getElem?_getD, hbit, Option.getD_some, ilvPositions_length,
    BitVec.testBit_toNat, BitVec.getMsbD]
  simp [show 4 * k + j < 196 by omega]

/-- Where a block stands interleaved is determined by it. -/
theorem isInterleaved_unique {u t t' : BitVec 196} (h : IsInterleaved u t) (h' : IsInterleaved u t') : t = t' := by
  refine eq_of_nibbleAt_eq fun p hp => ?_
  obtain ⟨k, hk, rfl⟩ := exists_ilv p hp
  rw [h k hk, h' k hk]

/-- A block is determined by where it stands interleaved. -/
theorem eq_of_isInterleaved {u u' t : BitVec 196} (h : IsInterleaved u t) (h' : IsInterleaved u' t) : u = u' :=
  eq_of_nibbleAt_eq fun k hk => (h k hk).symm.trans (h' k hk)

/-- Settles O33. -/
theorem interleaversMoveCodewords : Obligations.InterleaversMoveCodewords := by
  unfold Obligations.InterleaversMoveCodewords
  refine ⟨fun v s hv hs => ?_, fun v s hv hs => ?_⟩
  · obtain ⟨n, hn, hu⟩ := deinterleaveBits_eq (v.setWidth 196)
    refine ⟨BitVec.ofNat 196 n, congrArg Host.Outcome.next ?_, fun k hk => (hu k hk).symm⟩
    rw [withOperand_run 196 v s _ hs hv, hn]
    rfl
  · obtain ⟨b, hb, ht⟩ := interleaveBits_eq (v.setWidth 196)
    refine ⟨BitVec.ofNat 196 (int b), congrArg Host.Outcome.next ?_, ht⟩
    rw [withOperand_run 196 v s _ hs hv, hb]
    rfl

/-! ## PDU blocks -/

/-- A block decode, once its bits are deinterleaved: the octets and the re-encoding interleaved again, or the bits as
received (R286). -/
theorem decodeBlock_eq {rate : Rate} {t : BitVec 196} :
    ∃ u, IsInterleaved u t ∧
      (∀ os c e, decodeAtRate rate (unpack 4 49 u) = .ok os c e → ∃ cw, IsInterleaved (pack 196 c) cw ∧
        decodeBlock rate t = .ok { status := .ok, rate := rate, octets := os, errs := e, cw := cw }) ∧
      (decodeAtRate rate (unpack 4 49 u) = .fail → decodeBlock rate t = .ok {
        status := .fail, rate := rate, octets := List.replicate (rateOctets rate) 0, errs := 0, cw := t }) := by
  obtain ⟨n, hn, hu⟩ := deinterleaveBits_eq t
  refine ⟨_, hu, fun os c e hdec => ?_, fun hdec => ?_⟩
  · obtain ⟨b, hb, hcw⟩ := interleaveBits_eq (pack 196 c)
    refine ⟨_, hcw, ?_⟩
    simp only [decodeBlock, hn, bind, Except.bind, hdec, hb]
    rfl
  · simp only [decodeBlock, hn, bind, Except.bind, hdec]
    rfl

section Rate

variable {b n : Nat} {rows : List (List Nibble)} {rate : Rate} (hn : b * 48 = 8 * n) (hoctets : rateOctets rate = n)
  (hrate : ∀ ws, decodeAtRate rate ws = symbolOctets (b := b) (trellisDecode rows ws))
include hn hoctets hrate

/-- What a block decodes to at a rate (R286). -/
theorem blockDecoded_decodeBlock (t : BitVec 196) :
    ∃ blk, decodeBlock rate t = .ok blk ∧ BlockDecoded (b := b) rows rate n t blk := by
  obtain ⟨u, hu, hok, hfail⟩ := decodeBlock_eq (rate := rate) (t := t)
  rw [hrate] at hok hfail
  obtain ⟨ys, hpath, heq⟩ | ⟨hnone, heq⟩ := trellisDecode_cases (b := b) rows u <;> rw [heq] at hok hfail
  · have hlen := length_take_path hpath
    obtain ⟨cw, hcw, hblk⟩ := hok _ _ _ rfl
    refine ⟨_, hblk, u, hu, .inl ⟨ys, pack (8 * n) (ys.take 48), _, cw, hpath, fun i hi => ?_,
      isTrellisCoded_pack rows hlen, hcw, ?_⟩⟩
    · rw [← hn]
      exact (extractLsb'_pack hlen hi).trans (take_getD hi)
    · rw [octets_symbolBits hlen hn]
  · exact ⟨_, hfail rfl, u, hu, .inr ⟨hnone, by rw [hoctets]⟩⟩

omit hoctets in
/-- A block received as it was sent decodes to its octets (R239, R286). -/
theorem decodeBlock_encoded (hinj : ∀ s : BitVec b, Function.Injective (nextCodeword rows s))
    {xs : List (BitVec b)} (hxs : xs.length = 48) {c t : BitVec 196} (hc : IsTrellisCoded rows xs c)
    (ht : IsInterleaved c t) :
    decodeBlock rate t =
      .ok { status := .ok, rate := rate, octets := octetsOf n (pack (8 * n) xs), errs := 0, cw := t } := by
  obtain ⟨u, hu, hok, -⟩ := decodeBlock_eq (rate := rate) (t := t)
  obtain rfl : u = c := eq_of_isInterleaved hu ht
  have hpack := eq_pack_of_isTrellisCoded hxs hc
  have hws : unpack 4 49 u = trellisEncode rows xs := by
    rw [hpack]
    exact unpack_pack (w := 4) (k := 49) (by rw [trellisEncode_length, hxs])
  rw [hrate, hws, trellisDecode_trellisEncode hinj] at hok
  obtain ⟨cw, hcw, hblk⟩ := hok _ _ _ rfl
  rw [← hpack] at hcw
  rw [hblk, isInterleaved_unique hcw ht, octets_symbolBits hxs hn]

end Rate

/-- Settles O55: both rates run the same decode, and each table has distinct entries in its rows. -/
theorem pduBlockDecodes : Obligations.PduBlockDecodes := by
  unfold Obligations.PduBlockDecodes
  refine ⟨blockDecoded_decodeBlock rfl rfl fun _ => rfl, blockDecoded_decodeBlock rfl rfl fun _ => rfl,
    fun v c t hc ht => ?_, fun v c t hc ht => ?_⟩
  · have hblk := decodeBlock_encoded (rate := .half) (n := 12) rfl (fun _ => rfl)
      (nextCodeword_injective Parameters.trellis12Rows_distinct) (unpack_length ..) hc ht
    rwa [pack_unpack (w := 2) (k := 48)] at hblk
  · have hblk := decodeBlock_encoded (rate := .threeQuarters) (n := 18) rfl (fun _ => rfl)
      (nextCodeword_injective Parameters.trellis34Rows_distinct) (unpack_length ..) hc ht
    rwa [pack_unpack (w := 3) (k := 48)] at hblk

end Sys2Proof.TrellisPaths

/-!
PROOFS. GF(64) (41 R200): products of hexbits are products of polynomials modulo `GF64_POLY`, and the hexbits are a
field.
-/

namespace Sys2Proof.Gf64

open Sys2Proof.Machine Sys2Proof.Safety Sys2Proof.Parameters Sys2Proof.BinaryCodes

/-! ## Products -/

theorem polyMul64_eq (a b : Hexbit) : polyMul64 a b = polyProduct b (a.setWidth 11) := rfl

theorem reduce64_eq (k : Nat) (a : BitVec 11) : reduce64 k a = polyRem gf64Poly 6 k a := by
  induction k generalizing a with
  | zero => rfl
  | succ k ih => exact ih _

theorem gf64Poly_hasDegree : HasDegree gf64Poly 6 := CodeCommands.hasDegree_of_lt (by decide)

/-- The remainder modulo `GF64_POLY` is a hexbit. -/
theorem reduce64_setWidth (a : BitVec 11) : ((reduce64 5 a).setWidth 6).setWidth 11 = reduce64 5 a := by
  refine BitVec.eq_of_getLsbD_eq fun i hi => ?_
  rw [BitVec.getLsbD_setWidth, BitVec.getLsbD_setWidth]
  rcases Nat.lt_or_ge i 6 with hlow | hhigh
  · simp [hi, hlow]
  · have hrem : (reduce64 5 a).getLsbD i = false := by
      rw [reduce64_eq]
      exact getLsbD_polyRem gf64Poly_hasDegree (by decide) (fun j hj => BitVec.getLsbD_of_ge a j hj) hhigh
    simp [show ¬ i < 6 by omega, hrem]

/-- R200. -/
theorem gfMul_modulo (a b : Hexbit) :
    ∃ q : BitVec 5, polyProduct b (a.setWidth 11) ^^^ polyProduct q gf64Poly = (gfMul a b).setWidth 11 := by
  obtain ⟨q, hq⟩ := isMultiple_xor_polyRem gf64Poly (d := 6) (Nat.le_refl 5) (polyMul64 a b)
  refine ⟨q, ?_⟩
  rw [gfMul, reduce64_setWidth, reduce64_eq, ← hq, ← polyMul64_eq, ← BitVec.xor_assoc, BitVec.xor_self,
    BitVec.zero_xor]

theorem reduce64_xor (k : Nat) (a b : BitVec 11) : reduce64 k (a ^^^ b) = reduce64 k a ^^^ reduce64 k b := by
  induction k generalizing a b with
  | zero => rfl
  | succ k ih =>
    rw [reduce64, reduce64, reduce64, ← ih, BitVec.getLsbD_xor]
    congr 1
    cases a.getLsbD (6 + k) <;> cases b.getLsbD (6 + k)
    · rfl
    · simp only [Bool.false_xor, Bool.false_eq_true, if_true, if_false, BitVec.xor_assoc]
    · simp only [Bool.xor_false, Bool.false_eq_true, if_true, if_false]; ac_rfl
    · simp only [Bool.xor_self, Bool.false_eq_true, if_true, if_false]
      calc a ^^^ b = a ^^^ b ^^^ (gf64Poly <<< k ^^^ gf64Poly <<< k) := by rw [BitVec.xor_self, BitVec.xor_zero]
        _ = _ := by ac_rfl

theorem gfMul_xor (a b c : Hexbit) : gfMul a (b ^^^ c) = gfMul a b ^^^ gfMul a c := by
  rw [gfMul, polyMul64_eq, polyProduct_xor, reduce64_xor, BitVec.setWidth_xor]
  rfl

theorem polyMul64_xor_left (a a' b : Hexbit) : polyMul64 (a ^^^ a') b = polyMul64 a b ^^^ polyMul64 a' b := by
  have hfold (l : List Nat) (x x' : BitVec 11) :
      l.foldl (fun acc i => if b.getLsbD i then acc ^^^ ((a ^^^ a').setWidth 11 <<< i) else acc) (x ^^^ x') =
        l.foldl (fun acc i => if b.getLsbD i then acc ^^^ (a.setWidth 11 <<< i) else acc) x ^^^
        l.foldl (fun acc i => if b.getLsbD i then acc ^^^ (a'.setWidth 11 <<< i) else acc) x' := by
    induction l generalizing x x' with
    | nil => rfl
    | cons i l ih =>
      rw [List.foldl_cons, List.foldl_cons, List.foldl_cons, ← ih, BitVec.setWidth_xor, BitVec.shiftLeft_xor_distrib]
      congr 1
      split
      · ac_rfl
      · rfl
  exact hfold (List.range 6) 0 0

theorem xor_gfMul (a b c : Hexbit) : gfMul (a ^^^ b) c = gfMul a c ^^^ gfMul b c := by
  rw [gfMul, polyMul64_xor_left, reduce64_xor, BitVec.setWidth_xor]
  rfl

theorem gfMul_zero (a : Hexbit) : gfMul a 0 = 0 := by
  have h := gfMul_xor a 0 0
  rwa [BitVec.xor_self, BitVec.xor_self] at h

theorem zero_gfMul (a : Hexbit) : gfMul 0 a = 0 := by
  have h := xor_gfMul 0 0 a
  rwa [BitVec.xor_self, BitVec.xor_self] at h

/-- The powers of two span the hexbits. -/
theorem hexbit_induction {P : Hexbit → Prop} (hzero : P 0) (hxor : ∀ a b, P a → P b → P (a ^^^ b))
    (hpow : ∀ i < 6, P (BitVec.twoPow 6 i)) (a : Hexbit) : P a := by
  have hsum : ∀ a : Hexbit,
      a = (List.range 6).foldl (fun acc i => acc ^^^ if a.getLsbD i then BitVec.twoPow 6 i else 0) 0 := by decide
  rw [hsum a]
  refine List.foldlRecOn (List.range 6) _ hzero fun x hx i hi => hxor _ _ hx ?_
  split
  · exact hpow i (List.mem_range.mp hi)
  · exact hzero

theorem gfMul_comm (a b : Hexbit) : gfMul a b = gfMul b a := by
  have hbasis : ∀ i < 6, ∀ j < 6,
      gfMul (BitVec.twoPow 6 i) (BitVec.twoPow 6 j) = gfMul (BitVec.twoPow 6 j) (BitVec.twoPow 6 i) := by
    decide +kernel
  induction a using hexbit_induction with
  | hzero => rw [zero_gfMul, gfMul_zero]
  | hxor x y hx hy => rw [xor_gfMul, gfMul_xor, hx, hy]
  | hpow i hi =>
    induction b using hexbit_induction with
    | hzero => rw [zero_gfMul, gfMul_zero]
    | hxor x y hx hy => rw [xor_gfMul, gfMul_xor, hx, hy]
    | hpow j hj => exact hbasis i hi j hj

theorem gfMul_assoc (a b c : Hexbit) : gfMul (gfMul a b) c = gfMul a (gfMul b c) := by
  have hbasis : ∀ i < 6, ∀ j < 6, ∀ k < 6,
      gfMul (gfMul (BitVec.twoPow 6 i) (BitVec.twoPow 6 j)) (BitVec.twoPow 6 k) =
        gfMul (BitVec.twoPow 6 i) (gfMul (BitVec.twoPow 6 j) (BitVec.twoPow 6 k)) := by decide +kernel
  induction a using hexbit_induction with
  | hzero => simp only [zero_gfMul]
  | hxor x y hx hy => simp only [xor_gfMul, hx, hy]
  | hpow i hi =>
    induction b using hexbit_induction with
    | hzero => simp only [zero_gfMul, gfMul_zero]
    | hxor x y hx hy => simp only [xor_gfMul, gfMul_xor, hx, hy]
    | hpow j hj =>
      induction c using hexbit_induction with
      | hzero => simp only [gfMul_zero]
      | hxor x y hx hy => simp only [gfMul_xor, hx, hy]
      | hpow k hk => exact hbasis i hi j hj k hk

theorem gfMul_one (a : Hexbit) : gfMul a 1 = a := by
  have hbasis : ∀ i < 6, gfMul (BitVec.twoPow 6 i) 1 = BitVec.twoPow 6 i := by decide +kernel
  induction a using hexbit_induction with
  | hzero => exact zero_gfMul 1
  | hxor x y hx hy => rw [xor_gfMul, hx, hy]
  | hpow i hi => exact hbasis i hi

/-! ## Powers -/

theorem gfPow_add (a : Hexbit) (m n : Nat) : gfPow a (m + n) = gfMul (gfPow a m) (gfPow a n) := by
  induction m with
  | zero => rw [Nat.zero_add, gfPow, gfMul_comm, gfMul_one]
  | succ m ih => rw [Nat.succ_add, gfPow, gfPow, ih, gfMul_assoc]

theorem gfPow_mul (a : Hexbit) (m n : Nat) : gfPow a (m * n) = gfPow (gfPow a m) n := by
  induction n with
  | zero => rfl
  | succ n ih => rw [Nat.mul_succ, Nat.add_comm, gfPow_add, ih, gfPow]

theorem one_gfPow (n : Nat) : gfPow 1 n = 1 := by
  induction n with
  | zero => rfl
  | succ n ih => rw [gfPow, ih, gfMul_one]

theorem gfMul_gfPow_gfAlpha_eq_one {k : Nat} (hk : k ≤ 63) :
    gfMul (gfPow gfAlpha k) (gfPow gfAlpha (63 - k)) = 1 := by
  rw [← gfPow_add, Nat.add_sub_cancel' hk, gfAlpha_order.1]

theorem gfPow_gfAlpha_ne_zero {k : Nat} (hk : k ≤ 63) : gfPow gfAlpha k ≠ 0 := by
  intro h
  have hone := gfMul_gfPow_gfAlpha_eq_one hk
  rw [h, zero_gfMul] at hone
  exact absurd hone (by decide)

/-- Powers of α below its order are distinct. -/
theorem gfPow_gfAlpha_inj {i j : Nat} (hi : i < 63) (hj : j < 63) (h : gfPow gfAlpha i = gfPow gfAlpha j) : i = j := by
  wlog hij : i ≤ j generalizing i j
  · exact (this hj hi h.symm (by omega)).symm
  by_contra hne
  refine gfAlpha_order.2 (j - i) (by omega) (by omega) ?_
  calc gfPow gfAlpha (j - i)
      = gfMul (gfPow gfAlpha 63) (gfPow gfAlpha (j - i)) := by rw [gfAlpha_order.1, gfMul_comm, gfMul_one]
    _ = gfPow gfAlpha (j + (63 - i)) := by rw [← gfPow_add]; congr 1; omega
    _ = 1 := by rw [gfPow_add, ← h, gfMul_gfPow_gfAlpha_eq_one hi.le]

/-- The 63 powers of α are all the nonzero elements. -/
theorem exists_gfPow_gfAlpha (a : Hexbit) (ha : a ≠ 0) : ∃ k < 63, gfPow gfAlpha k = a := by
  let power : Fin 63 → { a : Hexbit // a ≠ 0 } := fun k => ⟨gfPow gfAlpha k, gfPow_gfAlpha_ne_zero k.isLt.le⟩
  have hinj : Function.Injective power := fun i j h =>
    Fin.ext (gfPow_gfAlpha_inj i.isLt j.isLt (congrArg Subtype.val h))
  have hcard : Nat.card { a : Hexbit // a ≠ 0 } ≤ Nat.card (Fin 63) := by
    rw [Nat.card_eq_fintype_card, Nat.card_eq_fintype_card]
    decide
  obtain ⟨k, hk⟩ := (hinj.bijective_of_nat_card_le hcard).surjective ⟨a, ha⟩
  exact ⟨k, k.isLt, congrArg Subtype.val hk⟩

theorem gfMul_gfInv (a : Hexbit) (ha : a ≠ 0) : gfMul a (gfInv a) = 1 := by
  obtain ⟨k, -, rfl⟩ := exists_gfPow_gfAlpha a ha
  calc gfMul (gfPow gfAlpha k) (gfInv (gfPow gfAlpha k))
      = gfPow gfAlpha (k * 63) := (gfPow_mul gfAlpha k 63).symm
    _ = gfPow (gfPow gfAlpha 63) k := by rw [Nat.mul_comm, gfPow_mul]
    _ = 1 := by rw [gfAlpha_order.1, one_gfPow]

theorem gfInv_zero : gfInv 0 = 0 := zero_gfMul _

/-- Settles O27. -/
theorem fieldIsPolynomialsModulo : Obligations.FieldIsPolynomialsModulo := by
  unfold Obligations.FieldIsPolynomialsModulo
  refine ⟨fun a b => ?_, exists_gfPow_gfAlpha⟩
  rw [gfMul_comm]
  exact gfMul_modulo b a

/-! ## The field -/

/-- The hexbits as elements of a field. -/
structure Element where
  hexbit : Hexbit

/-- GF(64), on the hexbits with XOR as sum and `gfMul` as product (R200). -/
@[reducible] def field : Field Element :=
  @Field.ofMinimalAxioms Element
    ⟨fun a b => ⟨a.hexbit ^^^ b.hexbit⟩⟩ ⟨fun a b => ⟨gfMul a.hexbit b.hexbit⟩⟩ ⟨id⟩ ⟨fun a => ⟨gfInv a.hexbit⟩⟩
    ⟨⟨0⟩⟩ ⟨⟨1⟩⟩
    (fun _ _ _ => congrArg Element.mk (BitVec.xor_assoc ..))
    (fun _ => congrArg Element.mk BitVec.zero_xor)
    (fun _ => congrArg Element.mk BitVec.xor_self)
    (fun _ _ _ => congrArg Element.mk (gfMul_assoc ..))
    (fun _ _ => congrArg Element.mk (gfMul_comm ..))
    (fun _ => congrArg Element.mk ((gfMul_comm ..).trans (gfMul_one _)))
    (fun _ ha => congrArg Element.mk (gfMul_gfInv _ fun h => ha (congrArg Element.mk h)))
    (congrArg Element.mk gfInv_zero)
    (fun _ _ _ => congrArg Element.mk (gfMul_xor ..))
    ⟨⟨0⟩, ⟨1⟩, fun h => absurd (congrArg Element.hexbit h) (by decide)⟩

/-- The hexbits stand for elements of a field: XOR is the sum, `gfMul` the product (R200). The Reed-Solomon codes are
reasoned about in such a field. -/
structure Embedding {K : Type} [Field K] (φ : Hexbit → K) : Prop where
  map_xor : ∀ a b, φ (a ^^^ b) = φ a + φ b
  map_mul : ∀ a b, φ (gfMul a b) = φ a * φ b
  map_zero : φ 0 = 0
  map_one : φ 1 = 1
  injective : Function.Injective φ

theorem exists_embedding : ∃ (K : Type) (_ : Field K) (φ : Hexbit → K), Embedding φ :=
  ⟨Element, field, Element.mk,
    @Embedding.mk Element field Element.mk (fun _ _ => rfl) (fun _ _ => rfl) rfl rfl
      fun _ _ h => congrArg Element.hexbit h⟩

section Embedding

variable {K : Type} [Field K] {φ : Hexbit → K} (hφ : Embedding φ)
include hφ

theorem Embedding.map_eq_zero_iff {a : Hexbit} : φ a = 0 ↔ a = 0 := by
  rw [← hφ.map_zero]
  exact hφ.injective.eq_iff

/-- The characteristic is 2. -/
theorem Embedding.add_self (x : K) : x + x = 0 := by
  have hone : (1 : K) + 1 = 0 := by
    rw [← hφ.map_one, ← hφ.map_xor, BitVec.xor_self]
    exact hφ.map_zero
  calc x + x = x * (1 + 1) := by ring
    _ = 0 := by rw [hone, mul_zero]

theorem Embedding.eq_of_add_eq_zero {x y : K} (h : x + y = 0) : x = y := by
  calc x = x + y + y := by rw [add_assoc, hφ.add_self, add_zero]
    _ = y := by rw [h, zero_add]

theorem Embedding.map_gfPow (a : Hexbit) (n : Nat) : φ (gfPow a n) = φ a ^ n := by
  induction n with
  | zero => rw [gfPow, pow_zero, hφ.map_one]
  | succ n ih => rw [gfPow, hφ.map_mul, ih, pow_succ']

theorem Embedding.gfAlpha_ne_zero : φ gfAlpha ≠ 0 := fun h => absurd (hφ.map_eq_zero_iff.mp h) (by decide)

theorem Embedding.gfAlpha_pow_inj {i j : Nat} (hi : i < 63) (hj : j < 63) (h : φ gfAlpha ^ i = φ gfAlpha ^ j) :
    i = j :=
  gfPow_gfAlpha_inj hi hj (hφ.injective (by rw [hφ.map_gfPow, hφ.map_gfPow, h]))

end Embedding

end Sys2Proof.Gf64

/-!
PROOFS. The Reed-Solomon codes (41 R201, R202): a word's syndromes as power sums over a field, codewords determined by
all but r of their symbols, the encoder, and the decoder's completeness within ⌊r/2⌋ symbols.
-/

namespace Sys2Proof.ReedSolomon

open Sys2Proof.Machine Sys2Proof.Safety Sys2Proof.Gf64

/-! ## Power sums -/

/-- As many power sums of values at distinct points as there are points determine the values. -/
theorem eq_zero_of_power_sums {K : Type} [Field K] {S : Finset Nat} {f v : Nat → K} {r : Nat} (hcard : S.card ≤ r)
    (hf : Set.InjOn f S) (hsum : ∀ j < r, ∑ i ∈ S, v i * f i ^ j = 0) : ∀ i ∈ S, v i = 0 := by
  let e := S.equivFin.symm
  have hinj : Function.Injective fun k => f (e k) := fun a b h =>
    e.injective (Subtype.ext (hf (e a).2 (e b).2 h))
  have hzero := Matrix.eq_zero_of_forall_pow_sum_mul_pow_eq_zero (v := fun k => v (e k)) hinj fun j => by
    rw [e.sum_comp fun i : S => v i * f i ^ (j : Nat), Finset.sum_coe_sort S fun i => v i * f i ^ (j : Nat)]
    exact hsum j (by omega)
  intro i hi
  simpa [e] using congrFun hzero (S.equivFin ⟨i, hi⟩)

/-- A polynomial of degree at most `t` with more than `t` roots is zero. -/
theorem eq_zero_of_roots {K : Type} [Field K] {S : Finset Nat} {f lam : Nat → K} {t : Nat} (hcard : t < S.card)
    (hf : Set.InjOn f S) (hroot : ∀ i ∈ S, ∑ d ∈ Finset.range (t + 1), lam d * f i ^ d = 0) :
    ∀ d ≤ t, lam d = 0 := by
  obtain ⟨T, hTS, hT⟩ := Finset.exists_subset_card_eq (Nat.succ_le_of_lt hcard)
  let e := (T.equivFinOfCardEq hT).symm
  have hinj : Function.Injective fun k => f (e k) := fun a b h =>
    e.injective (Subtype.ext (hf (hTS (e a).2) (hTS (e b).2) h))
  have hzero := Matrix.eq_zero_of_forall_index_sum_mul_pow_eq_zero (v := fun d => lam d) hinj fun k => by
    rw [Fin.sum_univ_eq_sum_range fun d => lam d * f (e k) ^ d]
    exact hroot _ (hTS (e k).2)
  intro d hd
  simpa using congrFun hzero ⟨d, by omega⟩

/-! ## Lists of symbols -/

theorem getD_set {l : List Hexbit} {i j : Nat} {a : Hexbit} (hi : i < l.length) :
    (l.set i a).getD j 0 = if i = j then a else l.getD j 0 := by
  rw [List.getD_eq_getElem?_getD, List.getElem?_set, List.getD_eq_getElem?_getD]
  split
  · next hij => subst hij; simp
  · rfl

theorem ext_getD {a b : List Hexbit} (hlen : a.length = b.length) (h : ∀ i < a.length, a.getD i 0 = b.getD i 0) :
    a = b := by
  refine List.ext_getElem hlen fun i ha hb => ?_
  simpa [ha, hb] using h i ha

/-- The places where two words differ. -/
def errorSet (a b : List Hexbit) : Finset Nat := (Finset.range a.length).filter fun i => a.getD i 0 ≠ b.getD i 0

theorem mem_errorSet {a b : List Hexbit} {i : Nat} :
    i ∈ errorSet a b ↔ i < a.length ∧ a.getD i 0 ≠ b.getD i 0 := by
  rw [errorSet, Finset.mem_filter, Finset.mem_range]

/-- The symbol distance counts the places of difference (R10). -/
theorem card_errorSet {a b : List Hexbit} (hlen : a.length = b.length) : (errorSet a b).card = sdist a b := by
  induction a generalizing b with
  | nil => obtain rfl := List.length_eq_zero_iff.mp hlen.symm; rfl
  | cons x a ih =>
    obtain ⟨y, b, rfl⟩ := List.exists_cons_of_length_eq_add_one hlen.symm
    have hsplit : errorSet (x :: a) (y :: b) =
        (if x = y then ∅ else {0}) ∪ (errorSet a b).map ⟨Nat.succ, Nat.succ_injective⟩ := by
      ext i
      cases i with
      | zero => by_cases hxy : x = y <;> simp [mem_errorSet, hxy]
      | succ i => by_cases hxy : x = y <;> simp [mem_errorSet, hxy]
    have hdisjoint : Disjoint (if x = y then ∅ else {0})
        ((errorSet a b).map ⟨Nat.succ, Nat.succ_injective⟩) := by
      rw [Finset.disjoint_left]
      intro i hi hmem
      obtain ⟨j, -, rfl⟩ := Finset.mem_map.mp hmem
      split at hi <;> simp at hi
    rw [hsplit, Finset.card_union_of_disjoint hdisjoint, Finset.card_map, sdist, ih (by simpa using hlen)]
    congr 1
    split <;> rfl

theorem sdist_comm (a b : List Hexbit) : sdist a b = sdist b a := by
  induction a generalizing b with
  | nil => cases b <;> rfl
  | cons x a ih =>
    cases b with
    | nil => rfl
    | cons y b => simp only [sdist, ih, eq_comm]

theorem sdist_triangle {a b c : List Hexbit} (hab : a.length = b.length) (hbc : b.length = c.length) :
    sdist a c ≤ sdist a b + sdist b c := by
  rw [← card_errorSet (hab.trans hbc), ← card_errorSet hab, ← card_errorSet hbc]
  refine (Finset.card_le_card fun i hi => ?_).trans (Finset.card_union_le ..)
  obtain ⟨hlt, hne⟩ := mem_errorSet.mp hi
  rw [Finset.mem_union, mem_errorSet, mem_errorSet]
  by_cases hab' : a.getD i 0 = b.getD i 0
  · exact .inr ⟨hab ▸ hlt, hab' ▸ hne⟩
  · exact .inl ⟨hlt, hab'⟩

section Field

variable {K : Type} [Field K] {φ : Hexbit → K}

/-! ## Evaluation and syndromes -/

theorem gfEval_cons (c : Hexbit) (p : List Hexbit) (x : Hexbit) :
    gfEval (c :: p) x = p.foldl (fun acc c => gfMul acc x ^^^ c) c := by
  rw [gfEval, List.foldl_cons, zero_gfMul]
  exact congrArg (List.foldl _ · p) BitVec.zero_xor

theorem map_gfEval_nil (hφ : Embedding φ) (x : Hexbit) : φ (gfEval [] x) = 0 := hφ.map_zero

/-- Horner's rule, started from a higher part of the polynomial. -/
theorem map_foldl_gfEval (hφ : Embedding φ) (p : List Hexbit) (x a : Hexbit) :
    φ (p.foldl (fun acc c => gfMul acc x ^^^ c) a) = φ a * φ x ^ p.length + φ (gfEval p x) := by
  induction p generalizing a with
  | nil => rw [List.foldl_nil, List.length_nil, pow_zero, mul_one, map_gfEval_nil hφ, add_zero]
  | cons c p ih =>
    rw [gfEval_cons, List.foldl_cons, ih, ih, hφ.map_xor, hφ.map_mul, List.length_cons]
    ring

theorem map_gfEval_cons (hφ : Embedding φ) (c : Hexbit) (p : List Hexbit) (x : Hexbit) :
    φ (gfEval (c :: p) x) = φ c * φ x ^ p.length + φ (gfEval p x) := by
  rw [gfEval_cons, map_foldl_gfEval hφ]

theorem map_gfEval_append (hφ : Embedding φ) (p q : List Hexbit) (x : Hexbit) :
    φ (gfEval (p ++ q) x) = φ (gfEval p x) * φ x ^ q.length + φ (gfEval q x) := by
  rw [gfEval, List.foldl_append, map_foldl_gfEval hφ, ← gfEval]

theorem gfEval_replicate_zero (k : Nat) (x : Hexbit) : gfEval (List.replicate k 0) x = 0 := by
  induction k with
  | zero => rfl
  | succ k ih => rw [List.replicate_succ, gfEval_cons]; exact ih

/-- A polynomial's value, as the sum of its terms. -/
theorem map_gfEval (hφ : Embedding φ) (p : List Hexbit) (x : Hexbit) :
    φ (gfEval p x) = ∑ i ∈ Finset.range p.length, φ (p.getD i 0) * φ x ^ (p.length - 1 - i) := by
  induction p with
  | nil => exact hφ.map_zero
  | cons c p ih =>
    rw [map_gfEval_cons hφ, ih, List.length_cons, Finset.sum_range_succ']
    simp only [List.getD_cons_succ, List.getD_cons_zero, Nat.add_sub_cancel, Nat.sub_zero]
    rw [add_comm]
    congr 1
    refine Finset.sum_congr rfl fun i _ => ?_
    rw [Nat.sub_sub, Nat.add_comm 1]

/-- A polynomial given lowest coefficient first. -/
theorem map_gfEval_reverse (hφ : Embedding φ) (p : List Hexbit) (x : Hexbit) :
    φ (gfEval p.reverse x) = ∑ d ∈ Finset.range p.length, φ (p.getD d 0) * φ x ^ d := by
  induction p with
  | nil => exact hφ.map_zero
  | cons c p ih =>
    rw [List.reverse_cons, map_gfEval_append hφ, ih, map_gfEval_cons hφ, map_gfEval_nil hφ, Finset.sum_mul,
      List.length_singleton, List.length_cons, Finset.sum_range_succ']
    simp [pow_succ, mul_assoc]

/-- A syndrome is a power sum over the locators (R201). -/
theorem map_rsSyndrome (hφ : Embedding φ) (w : List Hexbit) (j : Nat) :
    φ (rsSyndrome w j) =
      ∑ i ∈ Finset.range w.length, φ (w.getD i 0) * φ (rsLocator w.length i) ^ (1 + j) := by
  rw [rsSyndrome, map_gfEval hφ]
  refine Finset.sum_congr rfl fun i _ => ?_
  rw [rsLocator, rsFirstRoot, hφ.map_gfPow, hφ.map_gfPow, ← pow_mul, ← pow_mul, Nat.mul_comm]

theorem rsLocator_ne_zero (hφ : Embedding φ) (n i : Nat) : φ (rsLocator n i) ≠ 0 := by
  rw [rsLocator, hφ.map_gfPow]
  exact pow_ne_zero _ hφ.gfAlpha_ne_zero

theorem rsLocator_inj (hφ : Embedding φ) {n i j : Nat} (hn : n ≤ 63) (hi : i < n) (hj : j < n)
    (h : φ (rsLocator n i) = φ (rsLocator n j)) : i = j := by
  rw [rsLocator, rsLocator, hφ.map_gfPow, hφ.map_gfPow] at h
  have := hφ.gfAlpha_pow_inj (by omega) (by omega) h
  omega

/-- The difference of two words' syndromes is the power sum over the places where they differ. -/
theorem map_rsSyndrome_add (hφ : Embedding φ) {a b : List Hexbit} (hlen : a.length = b.length) (j : Nat) :
    φ (rsSyndrome a j) + φ (rsSyndrome b j) =
      ∑ i ∈ errorSet a b, φ (a.getD i 0 ^^^ b.getD i 0) * φ (rsLocator a.length i) ^ (1 + j) := by
  rw [map_rsSyndrome hφ, map_rsSyndrome hφ, ← hlen, ← Finset.sum_add_distrib]
  simp only [← add_mul, ← hφ.map_xor]
  refine (Finset.sum_subset (Finset.filter_subset ..) fun i hi hnot => ?_).symm
  have heq : a.getD i 0 = b.getD i 0 := by
    by_contra hne
    exact hnot (mem_errorSet.mpr ⟨Finset.mem_range.mp hi, hne⟩)
  rw [heq, BitVec.xor_self, ← BitVec.ofNat_eq_ofNat, hφ.map_zero, zero_mul]

end Field

/-! ## Codewords -/

theorem isReedSolomon_iff {r : Nat} {c : List Hexbit} : IsReedSolomon r c ↔ ∀ j < r, rsSyndrome c j = 0 := Iff.rfl

/-- Codewords that differ in at most r symbols are equal: the minimum distance is r + 1 (R201). -/
theorem eq_of_sdist_le {r : Nat} {a b : List Hexbit} (hlen : a.length = b.length) (hn : a.length ≤ 63)
    (ha : IsReedSolomon r a) (hb : IsReedSolomon r b) (hdist : sdist a b ≤ r) : a = b := by
  obtain ⟨K, _, φ, hφ⟩ := exists_embedding
  have hzero := eq_zero_of_power_sums (S := errorSet a b) (f := fun i => φ (rsLocator a.length i))
    (v := fun i => φ (a.getD i 0 ^^^ b.getD i 0) * φ (rsLocator a.length i))
    (r := r) (by rwa [card_errorSet hlen])
    (fun i hi j hj h => rsLocator_inj hφ hn (mem_errorSet.mp hi).1 (mem_errorSet.mp hj).1 h)
    fun j hj => by
      have hsum := map_rsSyndrome_add hφ hlen j
      rw [isReedSolomon_iff.mp ha j hj, isReedSolomon_iff.mp hb j hj, hφ.map_zero, add_zero] at hsum
      simpa only [pow_add, pow_one, mul_assoc] using hsum.symm
  refine ext_getD hlen fun i hi => ?_
  by_contra hne
  have hprod := hzero i (mem_errorSet.mpr ⟨hi, hne⟩)
  rcases mul_eq_zero.mp hprod with h | h
  · exact hne (BitVec.xor_eq_zero_iff.mp (hφ.map_eq_zero_iff.mp h))
  · exact rsLocator_ne_zero hφ _ _ h

/-! ## The encoder -/

theorem addLeading_length (as bs : List Hexbit) : (addLeading as bs).length = as.length := by
  induction as generalizing bs with
  | nil => cases bs <;> rfl
  | cons a as ih => cases bs with
    | nil => rfl
    | cons b bs => simp [addLeading, ih]

theorem gfPolyRem_length (g : List Hexbit) {k : Nat} {a : List Hexbit} (hk : k ≤ a.length) :
    (gfPolyRem g k a).length = a.length - k := by
  induction k generalizing a with
  | zero => rfl
  | succ k ih =>
    obtain ⟨lead, rest, rfl⟩ := List.exists_cons_of_length_pos (Nat.lt_of_lt_of_le (Nat.succ_pos k) hk)
    rw [List.length_cons] at hk ⊢
    rw [gfPolyRem, ih (by rw [addLeading_length]; omega), addLeading_length]
    omega

theorem rsEncode_length (r : Nat) (m : List Hexbit) : (rsEncode r m).length = m.length + r := by
  rw [rsEncode, List.length_append, gfPolyRem_length _ (by simp)]
  simp

theorem take_rsEncode (r : Nat) (m : List Hexbit) : (rsEncode r m).take m.length = m := by
  rw [rsEncode, List.take_left]

section Field

variable {K : Type} [Field K] {φ : Hexbit → K}

theorem map_gfEval_addLeading (hφ : Embedding φ) {as bs : List Hexbit} (h : bs.length ≤ as.length) (x : Hexbit) :
    φ (gfEval (addLeading as bs) x) = φ (gfEval as x) + φ (gfEval bs x) * φ x ^ (as.length - bs.length) := by
  induction as generalizing bs with
  | nil =>
    obtain rfl := List.length_eq_zero_iff.mp (Nat.le_zero.mp h)
    simp [addLeading, map_gfEval_nil hφ]
  | cons a as ih =>
    cases bs with
    | nil => simp [addLeading, map_gfEval_nil hφ]
    | cons b bs =>
      have h : bs.length ≤ as.length := by simpa using h
      rw [addLeading, map_gfEval_cons hφ, map_gfEval_cons hφ, map_gfEval_cons hφ, ih h, addLeading_length, hφ.map_xor]
      simp only [List.length_cons, Nat.add_sub_add_right]
      rw [add_mul (φ b * _), mul_assoc (φ b), ← pow_add, Nat.add_sub_cancel' h]
      ring

theorem map_gfEval_map_gfMul (hφ : Embedding φ) (c : Hexbit) (p : List Hexbit) (x : Hexbit) :
    φ (gfEval (p.map (gfMul c)) x) = φ c * φ (gfEval p x) := by
  induction p with
  | nil => simp [map_gfEval_nil hφ]
  | cons a p ih => rw [List.map_cons, map_gfEval_cons hφ, map_gfEval_cons hφ, ih, hφ.map_mul, List.length_map]; ring

theorem map_gfEval_zipWith_xor (hφ : Embedding φ) {as bs : List Hexbit} (h : as.length = bs.length) (x : Hexbit) :
    φ (gfEval (List.zipWith (· ^^^ ·) as bs) x) = φ (gfEval as x) + φ (gfEval bs x) := by
  induction as generalizing bs with
  | nil =>
    obtain rfl := List.length_eq_zero_iff.mp h.symm
    simp [map_gfEval_nil hφ]
  | cons a as ih =>
    obtain ⟨b, bs, rfl⟩ := List.exists_cons_of_length_eq_add_one h.symm
    have h : as.length = bs.length := by simpa using h
    rw [List.zipWith_cons_cons, map_gfEval_cons hφ, map_gfEval_cons hφ, map_gfEval_cons hφ, ih h, hφ.map_xor,
      List.length_zipWith, h, Nat.min_self]
    ring

end Field

/-- The generator is monic of degree r (R201). -/
theorem exists_rsGenerator_eq_cons (r : Nat) : ∃ g, rsGenerator r = 1 :: g ∧ g.length = r := by
  induction r with
  | zero => exact ⟨[], rfl, rfl⟩
  | succ r ih =>
    obtain ⟨g, hg, hlen⟩ := ih
    refine ⟨_, by rw [rsGenerator, hg]; rfl, ?_⟩
    simp [hlen]

/-- The generator vanishes at its roots (R201). -/
theorem gfEval_rsGenerator {r j : Nat} (hj : j < r) : gfEval (rsGenerator r) (gfPow gfAlpha (1 + j)) = 0 := by
  obtain ⟨K, _, φ, hφ⟩ := exists_embedding
  induction r with
  | zero => exact absurd hj (Nat.not_lt_zero j)
  | succ r ih =>
    have hprod : φ (gfEval (rsGenerator (r + 1)) (gfPow gfAlpha (1 + j))) =
        φ (gfEval (rsGenerator r) (gfPow gfAlpha (1 + j))) *
          (φ (gfPow gfAlpha (1 + j)) + φ (gfPow gfAlpha (1 + r))) := by
      rw [rsGenerator, map_gfEval_zipWith_xor hφ (by simp), map_gfEval_append hφ, map_gfEval_cons hφ 0,
        map_gfEval_cons hφ 0, map_gfEval_map_gfMul hφ, map_gfEval_nil hφ, hφ.map_zero, rsFirstRoot,
        List.length_singleton]
      ring
    refine hφ.map_eq_zero_iff.mp (hprod.trans ?_)
    rcases Nat.lt_succ_iff_lt_or_eq.mp hj with hlt | rfl
    · rw [ih hlt, hφ.map_zero, zero_mul]
    · rw [hφ.add_self, mul_zero]

/-- The division by a monic polynomial keeps the value at its roots (R201). -/
theorem gfEval_gfPolyRem {g : List Hexbit} {x : Hexbit} (hroot : gfEval (1 :: g) x = 0) {k : Nat} {a : List Hexbit}
    (hk : k + g.length ≤ a.length) : gfEval (gfPolyRem (1 :: g) k a) x = gfEval a x := by
  obtain ⟨K, _, φ, hφ⟩ := exists_embedding
  have htail : φ (gfEval g x) = φ x ^ g.length := by
    have h := map_gfEval_cons hφ 1 g x
    rw [hroot, hφ.map_zero, hφ.map_one, one_mul] at h
    exact (hφ.eq_of_add_eq_zero h.symm).symm
  induction k generalizing a with
  | zero => rfl
  | succ k ih =>
    obtain ⟨lead, rest, rfl⟩ := List.exists_cons_of_length_pos (l := a) (by omega)
    have hrest : k + g.length ≤ rest.length := by rw [List.length_cons] at hk; omega
    rw [gfPolyRem, List.drop_one, List.tail_cons, ih (by rwa [addLeading_length])]
    refine hφ.injective ?_
    rw [map_gfEval_addLeading hφ (by simp; omega), map_gfEval_map_gfMul hφ, htail, List.length_map, mul_assoc,
      ← pow_add, Nat.add_sub_cancel' (by omega), map_gfEval_cons hφ, add_comm]

/-- The encoder answers codewords (R201). -/
theorem isReedSolomon_rsEncode (r : Nat) (m : List Hexbit) : IsReedSolomon r (rsEncode r m) := by
  obtain ⟨K, _, φ, hφ⟩ := exists_embedding
  intro j hj
  obtain ⟨g, hg, hlen⟩ := exists_rsGenerator_eq_cons r
  have hroot := gfEval_rsGenerator hj
  rw [hg] at hroot
  refine hφ.map_eq_zero_iff.mp ?_
  have hrem := gfEval_gfPolyRem hroot (k := m.length) (a := m ++ List.replicate r 0) (by simp [hlen])
  rw [rsEncode, map_gfEval_append hφ, hg, hrem, gfPolyRem_length _ (by simp), map_gfEval_append hφ,
    gfEval_replicate_zero, hφ.map_zero, add_zero]
  simp only [List.length_append, List.length_replicate, Nat.add_sub_cancel_left]
  exact hφ.add_self _

/-- A codeword is the encoding of its information symbols. -/
theorem rsEncode_take {r : Nat} {c : List Hexbit} (hn : c.length ≤ 63) (hr : r ≤ c.length) (hc : IsReedSolomon r c) :
    rsEncode r (c.take (c.length - r)) = c := by
  have hlen : (rsEncode r (c.take (c.length - r))).length = c.length := by
    rw [rsEncode_length, List.length_take]; omega
  refine eq_of_sdist_le hlen (by omega) (isReedSolomon_rsEncode r _) hc ?_
  rw [← card_errorSet hlen]
  have hsub : errorSet (rsEncode r (c.take (c.length - r))) c ⊆ Finset.Ico (c.length - r) c.length := by
    intro i hi
    obtain ⟨hlt, hne⟩ := mem_errorSet.mp hi
    rw [Finset.mem_Ico]
    refine ⟨?_, hlen ▸ hlt⟩
    by_contra hlow
    refine hne ?_
    rw [rsEncode, List.getD_append _ _ _ _ (by rw [List.length_take]; omega), List.getD_eq_getElem?_getD,
      List.getElem?_take_of_lt (by omega), List.getD_eq_getElem?_getD]
  have hcard := Finset.card_le_card hsub
  rw [Nat.card_Ico] at hcard
  omega

end Sys2Proof.ReedSolomon

/-!
PROOFS. The Reed-Solomon decoder (41 R202, notes/assumptions/12.md): elimination gives a vector that every row
annihilates, so within ⌊r/2⌋ symbol errors the error positions are among the roots of the first and the error values
are those of the second, and the decoder answers the codeword.
-/

namespace Sys2Proof.ReedSolomon

open Sys2Proof.Machine Sys2Proof.Safety Sys2Proof.Gf64

/-! ## Elimination -/

theorem map_gfDot {K : Type} [Field K] {φ : Hexbit → K} (hφ : Embedding φ) {a b : List Hexbit}
    (h : a.length = b.length) :
    φ (gfDot a b) = ∑ i ∈ Finset.range a.length, φ (a.getD i 0) * φ (b.getD i 0) := by
  induction a generalizing b with
  | nil => exact hφ.map_zero
  | cons x a ih =>
    obtain ⟨y, b, rfl⟩ := List.exists_cons_of_length_eq_add_one h.symm
    rw [gfDot, hφ.map_xor, hφ.map_mul, ih (by simpa using h), List.length_cons, Finset.sum_range_succ', add_comm]
    rfl

theorem nil_gfDot (v : List Hexbit) : gfDot [] v = 0 := rfl

theorem gfDot_nil (a : List Hexbit) : gfDot a [] = 0 := by cases a <;> rfl

theorem gfDot_map_gfMul (a v : List Hexbit) (p : Hexbit) : gfDot a (v.map (gfMul p)) = gfMul p (gfDot a v) := by
  induction a generalizing v with
  | nil => exact (gfMul_zero p).symm
  | cons x a ih =>
    cases v with
    | nil => exact (gfMul_zero p).symm
    | cons y v =>
      rw [List.map_cons, gfDot, gfDot, ih, gfMul_xor, ← gfMul_assoc, ← gfMul_assoc, gfMul_comm x p]

/-- Elimination combines two rows. -/
theorem gfDot_combine {a b v : List Hexbit} (h : a.length = b.length) (p q : Hexbit) :
    gfDot (List.zipWith (fun x y => gfMul p x ^^^ gfMul q y) a b) v = gfMul p (gfDot a v) ^^^ gfMul q (gfDot b v) := by
  induction a generalizing b v with
  | nil =>
    obtain rfl := List.length_eq_zero_iff.mp h.symm
    rw [List.zipWith_nil_left, nil_gfDot, gfMul_zero, gfMul_zero]
    rfl
  | cons x a ih =>
    obtain ⟨y, b, rfl⟩ := List.exists_cons_of_length_eq_add_one h.symm
    cases v with
    | nil =>
      rw [List.zipWith_cons_cons, gfDot_nil, gfDot_nil, gfDot_nil, gfMul_zero, gfMul_zero]
      rfl
    | cons z v =>
      rw [List.zipWith_cons_cons, gfDot, gfDot, gfDot, ih (by simpa using h), xor_gfMul, gfMul_xor, gfMul_xor,
        gfMul_assoc, gfMul_assoc]
      ac_rfl

theorem kernelVector_length (u : Nat) (rows : List (List Hexbit)) : (kernelVector u rows).length = u + 1 := by
  induction u generalizing rows with
  | zero => rfl
  | succ u ih =>
    rw [kernelVector]
    split
    · simp
    · simp [ih]

theorem exists_ne_zero_mem_kernelVector (u : Nat) (rows : List (List Hexbit)) : ∃ x ∈ kernelVector u rows, x ≠ 0 := by
  induction u generalizing rows with
  | zero => exact ⟨1, by simp [kernelVector], by decide⟩
  | succ u ih =>
    rw [kernelVector]
    split
    · exact ⟨1, List.mem_cons_self .., by decide⟩
    · next pivot hpivot =>
      obtain ⟨x, hx, hne⟩ := ih ((rows.erase pivot).map fun row =>
        List.zipWith (fun a b => gfMul (pivot.headD 0) a ^^^ gfMul (row.headD 0) b) (row.drop 1) (pivot.drop 1))
      refine ⟨gfMul (pivot.headD 0) x, List.mem_cons_of_mem _ (List.mem_map_of_mem hx), fun hzero => hne ?_⟩
      have hp : pivot.headD 0 ≠ 0 := by simpa using List.find?_some hpivot
      calc x = gfMul (gfMul (pivot.headD 0) x) (gfInv (pivot.headD 0)) := by
            rw [gfMul_comm (pivot.headD 0) x, gfMul_assoc, gfMul_gfInv _ hp, gfMul_one]
        _ = 0 := by rw [hzero, zero_gfMul]

theorem gfDot_cons_headD {row : List Hexbit} {u : Nat} (h : row.length = u + 1) (y : Hexbit) (v : List Hexbit) :
    gfDot row (y :: v) = gfMul (row.headD 0) y ^^^ gfDot (row.drop 1) v := by
  obtain ⟨x, row, rfl⟩ := List.exists_cons_of_length_eq_add_one h
  rfl

theorem gfDot_replicate_zero (a : List Hexbit) (k : Nat) : gfDot a (List.replicate k 0) = 0 := by
  induction a generalizing k with
  | nil => rfl
  | cons x a ih =>
    cases k with
    | zero => rfl
    | succ k => rw [List.replicate_succ, gfDot, ih, gfMul_zero]; rfl

/-- At most u rows of u + 1 symbols annihilate the vector that elimination gives. -/
theorem gfDot_kernelVector {u : Nat} {rows : List (List Hexbit)} (hu : rows.length ≤ u)
    (hlen : ∀ row ∈ rows, row.length = u + 1) : ∀ row ∈ rows, gfDot row (kernelVector u rows) = 0 := by
  induction u generalizing rows with
  | zero =>
    obtain rfl := List.length_eq_zero_iff.mp (Nat.le_zero.mp hu)
    simp
  | succ u ih =>
    intro row hrow
    rw [kernelVector]
    split
    · next hnone =>
      have hhead : row.headD 0 = 0 := by simpa using List.find?_eq_none.mp hnone row hrow
      rw [gfDot_cons_headD (hlen row hrow), hhead, zero_gfMul, gfDot_replicate_zero]
      rfl
    · next pivot hpivot =>
      have hmem := List.mem_of_find?_eq_some hpivot
      have hsolved := ih (rows := (rows.erase pivot).map fun row =>
          List.zipWith (fun a b => gfMul (pivot.headD 0) a ^^^ gfMul (row.headD 0) b) (row.drop 1) (pivot.drop 1))
        (by rw [List.length_map, List.length_erase_of_mem hmem]; omega)
        (by
          intro reduced hreduced
          obtain ⟨row', hrow', rfl⟩ := List.mem_map.mp hreduced
          rw [List.length_zipWith, List.length_drop, List.length_drop, hlen _ (List.mem_of_mem_erase hrow'),
            hlen _ hmem]
          omega)
      dsimp only at hsolved ⊢
      generalize kernelVector u _ = v at hsolved ⊢
      rw [gfDot_cons_headD (hlen row hrow), gfDot_map_gfMul]
      by_cases heq : row = pivot
      · subst heq
        exact BitVec.xor_self
      · have hrest := hsolved _ (List.mem_map_of_mem ((List.mem_erase_of_ne heq).mpr hrow))
        rw [gfDot_combine (by rw [List.length_drop, List.length_drop, hlen _ hrow, hlen _ hmem]),
          BitVec.xor_comm] at hrest
        exact hrest

/-! ## Error positions -/

section Decoder

variable {r n : Nat} {w c : List Hexbit} (hw : w.length = n) (hc : c.length = n) (hn : n ≤ 63)
  (hcode : IsReedSolomon r c) (hdist : sdist c w ≤ r / 2)

theorem getD_map_range {k d : Nat} (f : Nat → Hexbit) (hd : d < k) : ((List.range k).map f).getD d 0 = f d := by
  rw [List.getD_eq_getElem?_getD, List.getElem?_map, List.getElem?_range hd]
  rfl

/-- Λ, as the elimination gives it (notes/assumptions/12.md). -/
def locatorPolynomial (t : Nat) (w : List Hexbit) : List Hexbit :=
  kernelVector t ((List.range t).map fun j => (List.range (t + 1)).map fun i => rsSyndrome w (j + i))

theorem mem_rsErrorPositions {t i : Nat} :
    i ∈ rsErrorPositions t w ↔ i < w.length ∧ gfEval (locatorPolynomial t w).reverse (rsLocator w.length i) = 0 := by
  simp [rsErrorPositions, locatorPolynomial]

theorem rsErrorPositions_nodup (t : Nat) (w : List Hexbit) : (rsErrorPositions t w).Nodup :=
  List.nodup_range.filter _

/-- The locator polynomial is orthogonal to every t + 1 consecutive syndromes. -/
theorem sum_syndromes_locatorPolynomial {K : Type} [Field K] {φ : Hexbit → K} (hφ : Embedding φ) {t j : Nat}
    (hj : j < t) (w : List Hexbit) :
    ∑ d ∈ Finset.range (t + 1), φ (rsSyndrome w (j + d)) * φ ((locatorPolynomial t w).getD d 0) = 0 := by
  have hdot := gfDot_kernelVector (u := t)
    (rows := (List.range t).map fun j => (List.range (t + 1)).map fun i => rsSyndrome w (j + i)) (by simp) (by simp)
    _ (List.mem_map_of_mem (List.mem_range.mpr hj))
  have hsum := map_gfDot hφ (a := (List.range (t + 1)).map fun i => rsSyndrome w (j + i)) (b := locatorPolynomial t w)
    (by simp [locatorPolynomial, kernelVector_length])
  rw [locatorPolynomial, hdot, hφ.map_zero, List.length_map, List.length_range] at hsum
  rw [hsum]
  refine Finset.sum_congr rfl fun d hd => ?_
  rw [locatorPolynomial, getD_map_range _ (Finset.mem_range.mp hd)]

include hw in
/-- At most t candidate positions: they are roots of a nonzero polynomial of degree at most t. -/
theorem rsErrorPositions_length_le (hn : n ≤ 63) (t : Nat) : (rsErrorPositions t w).length ≤ t := by
  obtain ⟨K, _, φ, hφ⟩ := exists_embedding
  by_contra hlt
  have hlen : (locatorPolynomial t w).length = t + 1 := kernelVector_length ..
  have hzero := eq_zero_of_roots (S := (rsErrorPositions t w).toFinset) (f := fun i => φ (rsLocator n i))
    (lam := fun d => φ ((locatorPolynomial t w).getD d 0)) (t := t)
    (by rw [List.toFinset_card_of_nodup (rsErrorPositions_nodup t w)]; omega)
    (fun i hi j hj h => rsLocator_inj hφ hn
      (hw ▸ (mem_rsErrorPositions.mp (List.mem_toFinset.mp hi)).1)
      (hw ▸ (mem_rsErrorPositions.mp (List.mem_toFinset.mp hj)).1) h)
    fun i hi => by
      have hroot := (mem_rsErrorPositions.mp (List.mem_toFinset.mp hi)).2
      have hsum := map_gfEval_reverse hφ (locatorPolynomial t w) (rsLocator w.length i)
      rw [hroot, hφ.map_zero, hlen, hw] at hsum
      exact hsum.symm
  obtain ⟨x, hx, hne⟩ := exists_ne_zero_mem_kernelVector t
    ((List.range t).map fun j => (List.range (t + 1)).map fun i => rsSyndrome w (j + i))
  obtain ⟨d, hd, rfl⟩ := List.mem_iff_getElem.mp hx
  rw [kernelVector_length] at hd
  refine hne (hφ.map_eq_zero_iff.mp ?_)
  have := hzero d (by omega)
  rwa [List.getD_eq_getElem _ _ (by rw [hlen]; exact hd)] at this

include hw hc hcode in
/-- A word's syndromes are the power sums of its errors, when it is compared with a codeword. -/
theorem map_rsSyndrome_error {K : Type} [Field K] {φ : Hexbit → K} (hφ : Embedding φ) {j : Nat} (hj : j < r) :
    φ (rsSyndrome w j) =
      ∑ i ∈ errorSet w c, φ (w.getD i 0 ^^^ c.getD i 0) * φ (rsLocator n i) ^ (1 + j) := by
  have hsum := map_rsSyndrome_add hφ (hw.trans hc.symm) j
  rwa [isReedSolomon_iff.mp hcode j hj, hφ.map_zero, add_zero, hw] at hsum

theorem map_error_ne_zero {K : Type} [Field K] {φ : Hexbit → K} (hφ : Embedding φ) {i : Nat}
    (hi : i ∈ errorSet w c) : φ (w.getD i 0 ^^^ c.getD i 0) ≠ 0 := fun h =>
  (mem_errorSet.mp hi).2 (BitVec.xor_eq_zero_iff.mp (hφ.map_eq_zero_iff.mp h))

include hw hc hn hcode hdist in
/-- Every error position is a candidate. -/
theorem mem_rsErrorPositions_of_mem_errorSet {i : Nat} (hi : i ∈ errorSet w c) :
    i ∈ rsErrorPositions (r / 2) w := by
  obtain ⟨K, _, φ, hφ⟩ := exists_embedding
  have hlen : (locatorPolynomial (r / 2) w).length = r / 2 + 1 := kernelVector_length ..
  have hvalue (i : Nat) := map_gfEval_reverse hφ (locatorPolynomial (r / 2) w) (rsLocator n i)
  have hzero := eq_zero_of_power_sums (S := errorSet w c) (f := fun i => φ (rsLocator n i))
    (v := fun i => φ (w.getD i 0 ^^^ c.getD i 0) * φ (rsLocator n i) *
      φ (gfEval (locatorPolynomial (r / 2) w).reverse (rsLocator n i))) (r := r / 2)
    (by rwa [card_errorSet (hw.trans hc.symm), sdist_comm])
    (fun i hi j hj h => rsLocator_inj hφ hn (hw ▸ (mem_errorSet.mp hi).1) (hw ▸ (mem_errorSet.mp hj).1) h)
    fun j hj => by
      calc ∑ i ∈ errorSet w c, φ (w.getD i 0 ^^^ c.getD i 0) * φ (rsLocator n i) *
              φ (gfEval (locatorPolynomial (r / 2) w).reverse (rsLocator n i)) * φ (rsLocator n i) ^ j
          = ∑ i ∈ errorSet w c, ∑ d ∈ Finset.range (r / 2 + 1),
              φ (w.getD i 0 ^^^ c.getD i 0) * φ (rsLocator n i) ^ (1 + (j + d)) *
                φ ((locatorPolynomial (r / 2) w).getD d 0) := by
            refine Finset.sum_congr rfl fun i _ => ?_
            rw [hvalue, hlen, Finset.mul_sum, Finset.sum_mul]
            exact Finset.sum_congr rfl fun d _ => by ring
        _ = ∑ d ∈ Finset.range (r / 2 + 1), φ (rsSyndrome w (j + d)) *
              φ ((locatorPolynomial (r / 2) w).getD d 0) := by
            rw [Finset.sum_comm]
            refine Finset.sum_congr rfl fun d hd => ?_
            rw [map_rsSyndrome_error hw hc hcode hφ (by have := Finset.mem_range.mp hd; omega), Finset.sum_mul]
        _ = 0 := sum_syndromes_locatorPolynomial hφ hj w
  have hprod := hzero i hi
  refine mem_rsErrorPositions.mpr ⟨(mem_errorSet.mp hi).1, hφ.map_eq_zero_iff.mp ?_⟩
  rw [hw]
  rcases mul_eq_zero.mp hprod with h | h
  · rcases mul_eq_zero.mp h with h | h
    · exact absurd h (map_error_ne_zero hφ hi)
    · exact absurd h (rsLocator_ne_zero hφ n i)
  · exact h

/-! ## Error values -/

/-- The values at the candidate positions that turn one word into another, as the decoder sets them. -/
theorem getD_foldl_set {ps : List Nat} (hnodup : ps.Nodup) (e : Nat → Hexbit) {w : List Hexbit}
    (hps : ∀ i ∈ ps, i < w.length) (j : Nat) :
    (ps.foldl (fun w i => w.set i (w.getD i 0 ^^^ e i)) w).getD j 0 =
      if j ∈ ps then w.getD j 0 ^^^ e j else w.getD j 0 := by
  induction ps generalizing w with
  | nil => simp
  | cons i ps ih =>
    obtain ⟨hi, hps'⟩ := List.nodup_cons.mp hnodup
    rw [List.foldl_cons, ih hps' fun k hk => by rw [List.length_set]; exact hps k (List.mem_cons_of_mem i hk),
      getD_set (hps i (List.mem_cons_self ..))]
    by_cases hij : i = j
    · subst hij; simp [hi]
    · simp [hij, Ne.symm hij]

theorem length_foldl_set (ps : List Nat) (e : Nat → Hexbit) (w : List Hexbit) :
    (ps.foldl (fun w i => w.set i (w.getD i 0 ^^^ e i)) w).length = w.length := by
  induction ps generalizing w with
  | nil => rfl
  | cons i ps ih => rw [List.foldl_cons, ih, List.length_set]

theorem sum_toFinset_eq_sum_range {K : Type} [Field K] {ps : List Nat} (hnodup : ps.Nodup) (f : Nat → K) :
    ∑ i ∈ ps.toFinset, f i = ∑ k ∈ Finset.range ps.length, f (ps.getD k 0) := by
  rw [List.sum_toFinset f hnodup]
  clear hnodup
  induction ps with
  | nil => rfl
  | cons i ps ih =>
    rw [List.map_cons, List.sum_cons, List.length_cons, Finset.sum_range_succ', ih, add_comm]
    rfl

theorem getD_mem {ps : List Nat} {k : Nat} (hk : k < ps.length) : ps.getD k 0 ∈ ps := by
  rw [List.getD_eq_getElem _ _ hk]
  exact List.getElem_mem hk

variable {ps : List Nat} (hnodup : ps.Nodup) (hps : ∀ i ∈ ps, i < n) (herrors : ∀ i ∈ errorSet w c, i ∈ ps)
  (hcount : ps.length ≤ r)

/-- The rows whose solutions are the error values at given positions (notes/assumptions/12.md). -/
def valueRows (ps : List Nat) (w : List Hexbit) : List (List Hexbit) :=
  (List.range ps.length).map fun j =>
    rsSyndrome w j :: ps.map fun i => gfPow (rsLocator w.length i) (rsFirstRoot + j)

include hw hc hn hcode hnodup hps herrors hcount in
/-- Every solution is a multiple of the errors. -/
theorem eq_of_kernelVector_valueRows {scale : Hexbit} {ys : List Hexbit}
    (h : kernelVector ps.length (valueRows ps w) = scale :: ys) :
    ys = ps.map fun i => gfMul scale (w.getD i 0 ^^^ c.getD i 0) := by
  obtain ⟨K, _, φ, hφ⟩ := exists_embedding
  have hlen : ys.length = ps.length := by
    have := kernelVector_length ps.length (valueRows ps w)
    rw [h] at this
    simpa using this
  have hsyndrome {j : Nat} (hj : j < ps.length) : φ (rsSyndrome w j) = ∑ k ∈ Finset.range ps.length,
      φ (w.getD (ps.getD k 0) 0 ^^^ c.getD (ps.getD k 0) 0) * φ (rsLocator n (ps.getD k 0)) ^ (1 + j) := by
    rw [map_rsSyndrome_error hw hc hcode hφ (by omega), ← sum_toFinset_eq_sum_range hnodup fun i =>
      φ (w.getD i 0 ^^^ c.getD i 0) * φ (rsLocator n i) ^ (1 + j)]
    refine Finset.sum_subset (fun i hi => List.mem_toFinset.mpr (herrors i hi)) fun i hi hnot => ?_
    have heq : w.getD i 0 = c.getD i 0 := by
      by_contra hne
      exact hnot (mem_errorSet.mpr ⟨hw.symm ▸ hps i (List.mem_toFinset.mp hi), hne⟩)
    rw [heq, BitVec.xor_self, ← BitVec.ofNat_eq_ofNat, hφ.map_zero, zero_mul]
  have hzero := eq_zero_of_power_sums (S := Finset.range ps.length) (f := fun k => φ (rsLocator n (ps.getD k 0)))
    (v := fun k => (φ scale * φ (w.getD (ps.getD k 0) 0 ^^^ c.getD (ps.getD k 0) 0) + φ (ys.getD k 0)) *
      φ (rsLocator n (ps.getD k 0))) (r := ps.length) (Finset.card_range _).le
    (fun a ha b hb heq => by
      have ha := Finset.mem_range.mp ha
      have hb := Finset.mem_range.mp hb
      have hpos := rsLocator_inj hφ hn (hps _ (getD_mem ha)) (hps _ (getD_mem hb)) heq
      rw [List.getD_eq_getElem _ _ ha, List.getD_eq_getElem _ _ hb] at hpos
      exact (hnodup.getElem_inj_iff).mp hpos)
    fun j hj => by
      have hdot := gfDot_kernelVector (u := ps.length) (rows := valueRows ps w) (by simp [valueRows])
        (by simp [valueRows]) _ (List.mem_map_of_mem (List.mem_range.mpr hj))
      have hsum := map_gfDot hφ (a := ps.map fun i => gfPow (rsLocator w.length i) (rsFirstRoot + j)) (b := ys)
        (by simp [hlen])
      rw [h, gfDot] at hdot
      have htotal := congrArg φ hdot
      rw [hφ.map_xor, hφ.map_mul, hsum, hφ.map_zero, hsyndrome hj, List.length_map, Finset.sum_mul,
        ← Finset.sum_add_distrib] at htotal
      rw [← htotal]
      refine Finset.sum_congr rfl fun k hk => ?_
      have hk := Finset.mem_range.mp hk
      rw [List.getD_eq_getElem _ _ (show k < (ps.map _).length by simpa using hk), List.getElem_map,
        List.getD_eq_getElem _ _ hk, hφ.map_gfPow, hw, rsFirstRoot]
      ring
  refine ext_getD (by simp [hlen]) fun k hk => ?_
  have hk : k < ps.length := hlen ▸ hk
  have hprod := hzero k (Finset.mem_range.mpr hk)
  rcases mul_eq_zero.mp hprod with hsum | hloc
  · refine hφ.injective ((hφ.eq_of_add_eq_zero hsum).symm.trans ?_)
    rw [List.getD_eq_getElem _ _ (show k < (ps.map _).length by simpa using hk), List.getElem_map,
      List.getD_eq_getElem _ _ hk, hφ.map_mul]
  · exact absurd hloc (rsLocator_ne_zero hφ n _)

include hw hc hn hcode hnodup hps herrors hcount in
/-- With every error position among at most r positions, the decoder's correction gives the codeword. -/
theorem rsCorrectAt_eq : rsCorrectAt ps w = c := by
  obtain ⟨scale, ys, hkernel⟩ := List.exists_cons_of_length_eq_add_one (kernelVector_length ps.length (valueRows ps w))
  have hys := eq_of_kernelVector_valueRows hw hc hn hcode hnodup hps herrors hcount hkernel
  have hscale : scale ≠ 0 := by
    rintro rfl
    obtain ⟨x, hx, hne⟩ := exists_ne_zero_mem_kernelVector ps.length (valueRows ps w)
    rw [hkernel, hys, List.mem_cons, List.mem_map] at hx
    rcases hx with rfl | ⟨i, -, rfl⟩
    · exact hne rfl
    · exact hne (zero_gfMul _)
  have hcancel (e : Hexbit) : gfMul (gfMul scale e) (gfInv scale) = e := by
    rw [gfMul_comm scale, gfMul_assoc, gfMul_gfInv _ hscale, gfMul_one]
  rw [valueRows] at hkernel
  have hzip : ps.zip (ps.map fun i => gfMul scale (w.getD i 0 ^^^ c.getD i 0)) =
      ps.map fun i => (i, gfMul scale (w.getD i 0 ^^^ c.getD i 0)) := (List.map_prod_left_eq_zip ..).symm
  simp only [rsCorrectAt, hkernel, if_neg hscale, hys, hzip, List.foldl_map, hcancel]
  refine ext_getD (by rw [length_foldl_set, hw, hc]) fun i hi => ?_
  rw [length_foldl_set] at hi
  rw [getD_foldl_set hnodup _ (by rwa [hw])]
  split
  · rw [← BitVec.xor_assoc, BitVec.xor_self, BitVec.zero_xor]
  · next hnot =>
    by_contra hne
    exact hnot (herrors i (mem_errorSet.mpr ⟨hi, hne⟩))

include hw hc hn hcode hdist in
/-- Within the radius the decoder answers the codeword (R202). -/
theorem rsDecode_eq_ok (hr : r ≤ n) : rsDecode r w = .ok (c.take (n - r)) c (sdist c w) := by
  have hcorrect : rsCorrectAt (rsErrorPositions (r / 2) w) w = c :=
    rsCorrectAt_eq hw hc hn hcode (rsErrorPositions_nodup _ w) (fun i hi => hw ▸ (mem_rsErrorPositions.mp hi).1)
      (fun i hi => mem_rsErrorPositions_of_mem_errorSet hw hc hn hcode hdist hi)
      ((rsErrorPositions_length_le hw hn _).trans (Nat.div_le_self ..))
  have hencode : rsEncode r (c.take (n - r)) = c := by
    rw [← hc]
    exact rsEncode_take (by omega) (by omega) hcode
  simp only [rsDecode, hcorrect, hw]
  rw [if_pos ⟨hencode, hdist⟩]

end Decoder

end Sys2Proof.ReedSolomon

/-!
PROOFS. The Reed-Solomon commands (41 R205 to R210), on packed words; and the minimum distance of the BCH code (40 R161,
R166), whose words vanish at 22 consecutive powers of α.
-/

namespace Sys2Proof.ReedSolomon

open Sys2Proof.Machine Sys2Proof.Safety Sys2Proof.Gf64 Sys2Proof.BinaryCodes Sys2Proof.Words

/-! ## Symbols of words -/

/-- The information symbols of a word are its first symbols. -/
theorem unpack_extractLsb' {w k r : Nat} (c : BitVec (w * (k + r))) :
    unpack w k (c.extractLsb' (w * r) (w * k)) = (unpack w (k + r) c).take k := by
  refine List.ext_getElem? fun i => ?_
  rcases Nat.lt_or_ge i k with hi | hi
  · rw [unpack_getElem? _ hi, List.getElem?_take_of_lt hi, unpack_getElem? _ (by omega)]
    have hend : w * (k - 1 - i) + w ≤ w * k := by rw [← Nat.mul_succ]; exact Nat.mul_le_mul_left w (by omega)
    have hpos : w * r + w * (k - 1 - i) = w * (k + r - 1 - i) := by rw [← Nat.mul_add]; congr 1; omega
    refine congrArg some (BitVec.eq_of_getLsbD_eq fun j hj => ?_)
    simp only [BitVec.getLsbD_extractLsb', hj, ← hpos, show w * (k - 1 - i) + j < w * k by omega, decide_true,
      Bool.true_and, Nat.add_assoc]
  · rw [List.getElem?_eq_none (by simpa using hi), List.getElem?_eq_none (by simp; omega)]

theorem unpack_injective {w k : Nat} {a b : BitVec (w * k)} (h : unpack w k a = unpack w k b) : a = b := by
  rw [← pack_unpack a, h, pack_unpack]

/-- Counting from the other end. -/
theorem length_filter_reflect (p : Nat → Bool) (n : Nat) :
    ((List.range n).filter fun i => p (n - 1 - i)).length = ((List.range n).filter p).length := by
  have hreflect : (List.range n).map (n - 1 - ·) = (List.range n).reverse := by
    rw [List.range_eq_range', List.reverse_range', ← List.range_eq_range', Nat.zero_add]
  rw [← List.countP_eq_length_filter, ← List.countP_eq_length_filter, ← List.countP_reverse (p := p), ← hreflect,
    List.countP_map]
  rfl

/-- The symbol distance of two mapped lists. -/
theorem sdist_map (f g : Nat → Hexbit) (l : List Nat) :
    sdist (l.map f) (l.map g) = (l.filter fun i => f i != g i).length := by
  induction l with
  | nil => rfl
  | cons i l ih =>
    rw [List.map_cons, List.map_cons, sdist, ih, List.filter_cons]
    by_cases h : f i = g i
    · simp [h]
    · simp [h, Nat.add_comm]

/-- The symbol distance of two words (R10). -/
theorem symbolDifferences_eq {k n : Nat} (a b : BitVec n) :
    symbolDifferences k a b = sdist (unpack 6 k a) (unpack 6 k b) := by
  rw [unpack, unpack, sdist_map, symbolDifferences]
  exact (length_filter_reflect (fun i => a.extractLsb' (6 * i) 6 != b.extractLsb' (6 * i) 6) k).symm

/-! ## Encoders -/

/-- R201, on packed words. -/
theorem rsEncode_packed {r k K N : Nat} (hK : K = 6 * k) (hN : N = 6 * (k + r)) (v : BitVec K) :
    (pack N (rsEncode r (unpack 6 k v))).extractLsb' (6 * r) K = v ∧
      IsReedSolomon r (unpack 6 (k + r) (pack N (rsEncode r (unpack 6 k v)))) := by
  subst hK hN
  have hlen : (rsEncode r (unpack 6 k v)).length = k + r := by rw [rsEncode_length, unpack_length]
  have htake := take_rsEncode r (unpack 6 k v)
  rw [unpack_length] at htake
  refine ⟨unpack_injective ?_, ?_⟩
  · rw [unpack_extractLsb', unpack_pack hlen, htake]
  · rw [unpack_pack hlen]
    exact isReedSolomon_rsEncode r _

/-- Settles O28. -/
theorem reedSolomonEncodersGiveCodewords : Obligations.ReedSolomonEncodersGiveCodewords := by
  unfold Obligations.ReedSolomonEncodersGiveCodewords
  refine ⟨fun v s hs => ?_, fun v s hs => ?_, fun v s hs => ?_⟩
  · exact ⟨_, pureCommand_full 72 v _ s hs, rsEncode_packed (r := 12) (k := 12) rfl rfl v⟩
  · exact ⟨_, pureCommand_full 96 v _ s hs, rsEncode_packed (r := 8) (k := 16) rfl rfl v⟩
  · exact ⟨_, pureCommand_full 120 v _ s hs, rsEncode_packed (r := 16) (k := 20) rfl rfl v⟩

/-! ## Decoders -/

theorem rsCorrectAt_length (ps : List Nat) (w : List Hexbit) : (rsCorrectAt ps w).length = w.length := by
  have hfold (zs : List (Nat × Hexbit)) (scale : Hexbit) (w : List Hexbit) :
      (zs.foldl (fun w iy => w.set iy.1 (w.getD iy.1 0 ^^^ gfMul iy.2 (gfInv scale))) w).length = w.length := by
    induction zs generalizing w with
    | nil => rfl
    | cons z zs ih => rw [List.foldl_cons, ih, List.length_set]
  rw [rsCorrectAt]
  split
  · rfl
  · split
    · rfl
    · exact hfold ..

theorem length_of_rsDecode_ok {r e : Nat} {w m c : List Hexbit} (h : rsDecode r w = .ok m c e) :
    c.length = w.length := by
  simp only [rsDecode] at h
  split at h
  · injection h with _ hc _
    rw [← hc, rsCorrectAt_length]
  · cases h

/-- Bounded-distance decoding by symbols (R202), of the decoder's result. -/
theorem rsDecode_cases {r n : Nat} {w : List Hexbit} (hw : w.length = n) (hn : n ≤ 63) (hr : r ≤ n) :
    (∃ c, c.length = n ∧ IsReedSolomon r c ∧ sdist c w ≤ r / 2 ∧
      rsDecode r w = .ok (c.take (n - r)) c (sdist c w)) ∨
    ((∀ c : List Hexbit, c.length = n → IsReedSolomon r c → r / 2 < sdist c w) ∧ rsDecode r w = .fail) := by
  by_cases hnear : ∃ c : List Hexbit, c.length = n ∧ IsReedSolomon r c ∧ sdist c w ≤ r / 2
  · obtain ⟨c, hc, hcode, hdist⟩ := hnear
    exact .inl ⟨c, hc, hcode, hdist, rsDecode_eq_ok hw hc hn hcode hdist hr⟩
  · refine .inr ⟨fun c hc hcode => Nat.lt_of_not_le fun hle => hnear ⟨c, hc, hcode, hle⟩, ?_⟩
    cases hdec : rsDecode r w with
    | fail => rfl
    | ok m c e =>
      obtain ⟨henc, rfl, hle⟩ := rsDecode_ok hdec
      exact absurd ⟨c, (length_of_rsDecode_ok hdec).trans hw, henc ▸ isReedSolomon_rsEncode r m, hle⟩ hnear

/-- R202, on packed words. -/
theorem rsDecode_boundedDistance {r k K N : Nat} (hn : k + r ≤ 63) (hK : K = 6 * k) (hN : N = 6 * (k + r))
    (v : BitVec N) :
    BoundedDistance (fun c : BitVec N => IsReedSolomon r (unpack 6 (k + r) c)) (symbolDifferences (k + r))
      (fun c => c.extractLsb' (6 * r) K) (r / 2) v
      (decodedResponse (rsPacked K N (rsDecode r (unpack 6 (k + r) v)))) := by
  subst hK hN
  obtain ⟨c, hc, hcode, hdist, heq⟩ | ⟨hnone, heq⟩ := rsDecode_cases (unpack_length 6 (k + r) v) hn (Nat.le_add_left ..)
  · have hunpack := unpack_pack (w := 6) hc
    have hinfo : pack (6 * k) (c.take k) = (pack (6 * (k + r)) c).extractLsb' (6 * r) (6 * k) := by
      rw [← hunpack, ← unpack_extractLsb', hunpack, pack_unpack]
    refine .inl ⟨pack (6 * (k + r)) c, (congrArg (IsReedSolomon r) hunpack).mpr hcode,
      by rwa [symbolDifferences_eq, hunpack], ?_⟩
    rw [heq, symbolDifferences_eq, hunpack, Nat.add_sub_cancel, rsPacked, hinfo]
    rfl
  · refine .inr ⟨fun c hcode => ?_, by rw [heq]; rfl⟩
    rw [symbolDifferences_eq]
    exact hnone _ (unpack_length ..) hcode

/-- Settles O29. -/
theorem reedSolomonDecodersAreBoundedDistance : Obligations.ReedSolomonDecodersAreBoundedDistance := by
  unfold Obligations.ReedSolomonDecodersAreBoundedDistance
  refine ⟨fun v s hs => ?_, fun v s hs => ?_, fun v s hs => ?_⟩
  · exact ⟨_, pureCommand_full 144 v _ s hs, rsDecode_boundedDistance (r := 12) (k := 12) (by decide) rfl rfl v⟩
  · exact ⟨_, pureCommand_full 144 v _ s hs, rsDecode_boundedDistance (r := 8) (k := 16) (by decide) rfl rfl v⟩
  · exact ⟨_, pureCommand_full 216 v _ s hs, rsDecode_boundedDistance (r := 16) (k := 20) (by decide) rfl rfl v⟩

/-! ## The BCH code -/

section Bch

variable {K : Type} [Field K]

/-- A word as a polynomial over GF(2), at a point. -/
def bitValue {n : Nat} (x : K) (c : BitVec n) : K :=
  ∑ i ∈ Finset.range n, if c.getLsbD i then x ^ i else 0

theorem bitValue_xor {φ : Hexbit → K} (hφ : Embedding φ) {n : Nat} (x : K) (a b : BitVec n) :
    bitValue x (a ^^^ b) = bitValue x a + bitValue x b := by
  rw [bitValue, bitValue, bitValue, ← Finset.sum_add_distrib]
  refine Finset.sum_congr rfl fun i _ => ?_
  rw [BitVec.getLsbD_xor]
  cases a.getLsbD i <;> cases b.getLsbD i <;> simp [hφ.add_self]

/-- Moving a polynomial up by k multiplies its value by the k-th power of the point, when no bit falls off. -/
theorem bitValue_shiftLeft {n k : Nat} (hk : k ≤ n) (x : K) {g : BitVec n} (hg : ∀ i, n - k ≤ i → g.getLsbD i = false) :
    bitValue x (g <<< k) = x ^ k * bitValue x g := by
  obtain ⟨m, rfl⟩ := Nat.exists_eq_add_of_le hk
  have hhigh : bitValue x g = ∑ i ∈ Finset.range m, if g.getLsbD i then x ^ i else 0 := by
    refine (Finset.sum_subset (Finset.range_mono (Nat.le_add_left m k)) fun i _ hi => ?_).symm
    have hi : m ≤ i := by simpa using hi
    rw [hg i (by omega)]
    rfl
  rw [hhigh, bitValue, Finset.sum_range_add, Finset.mul_sum, Finset.sum_eq_zero, zero_add]
  · refine Finset.sum_congr rfl fun i hi => ?_
    have hi := Finset.mem_range.mp hi
    rw [BitVec.getLsbD_shiftLeft, Nat.add_sub_cancel_left, mul_ite, ← pow_add, mul_zero]
    simp [hi]
  · intro i hi
    simp [Finset.mem_range.mp hi]

theorem bitValue_eq_zero_of_isMultiple {φ : Hexbit → K} (hφ : Embedding φ) {n k : Nat} {x : K} {g c : BitVec n}
    (hk : k ≤ n + 1) (hg : ∀ i, n + 1 - k ≤ i → g.getLsbD i = false) (hroot : bitValue x g = 0)
    (hc : IsMultiple k g c) : bitValue x c = 0 := by
  obtain ⟨q, rfl⟩ := hc
  have hzero : bitValue x (0 : BitVec n) = 0 := by simp [bitValue]
  refine List.foldlRecOn (motive := fun c => bitValue x c = 0) (List.range k) _ hzero fun c hc i hi => ?_
  have hi := List.mem_range.mp hi
  split
  · rw [bitValue_xor hφ, hc, bitValue_shiftLeft (by omega) x fun j hj => hg j (by omega), hroot, mul_zero, add_zero]
  · exact hc

/-- The value of a word at a hexbit, computed by Horner's rule. -/
theorem bitValue_eq_gfEval {φ : Hexbit → K} (hφ : Embedding φ) {n : Nat} (x : Hexbit) (c : BitVec n) :
    bitValue (φ x) c = φ (gfEval ((List.range n).map fun i => if c.getLsbD i then 1 else 0).reverse x) := by
  rw [map_gfEval_reverse hφ, List.length_map, List.length_range, bitValue]
  refine Finset.sum_congr rfl fun i hi => ?_
  rw [getD_map_range _ (Finset.mem_range.mp hi)]
  split
  · rw [hφ.map_one, one_mul]
  · rw [hφ.map_zero, zero_mul]

end Bch

/-- `BCH_GEN` vanishes at 22 consecutive powers of α. -/
theorem gfEval_bchGen : ∀ j < 22,
    gfEval ((List.range 63).map fun i => if bchGen.getLsbD i then 1 else 0).reverse (gfPow gfAlpha (1 + j)) = 0 := by
  decide +kernel

/-- A nonzero word of the BCH code has at least 23 ones (R161, R163). -/
theorem separated_bch63 : Separated IsBch63 11 := by
  intro c hc hne
  obtain ⟨K, _, φ, hφ⟩ := exists_embedding
  by_contra hle
  have hcard : ((Finset.range 63).filter fun i => c.getLsbD i).card = ones c := by
    have hlist : ((Finset.range 63).filter fun i => c.getLsbD i) = ((List.range 63).filter c.getLsbD).toFinset := by
      ext i
      simp
    rw [hlist, List.toFinset_card_of_nodup (List.nodup_range.filter _), ones]
  have hdeg : ∀ i, 63 + 1 - 16 ≤ i → bchGen.getLsbD i = false :=
    fun i hi => (CodeCommands.hasDegree_of_lt (d := 47) (by decide)).above i (by omega)
  have hzero := eq_zero_of_power_sums (S := (Finset.range 63).filter fun i => c.getLsbD i)
    (f := fun i => φ gfAlpha ^ i) (v := fun i => φ gfAlpha ^ i) (r := 22)
    (Nat.le_of_not_lt fun h => hle (hcard ▸ h))
    (fun i hi j hj h => hφ.gfAlpha_pow_inj (by simp at hi; omega) (by simp at hj; omega) h)
    fun j hj => by
      have hroot := bitValue_eq_gfEval hφ (gfPow gfAlpha (1 + j)) bchGen
      rw [gfEval_bchGen j hj, hφ.map_zero] at hroot
      rw [Finset.sum_filter]
      refine Eq.trans (Finset.sum_congr rfl fun i _ => ?_)
        (bitValue_eq_zero_of_isMultiple hφ (by decide) hdeg hroot hc)
      rw [hφ.map_gfPow, ← pow_mul, ← pow_mul, ← pow_add]
      congr 2
      ring
  refine hne (BitVec.eq_of_getLsbD_eq fun i hi => ?_)
  refine (Bool.eq_false_of_not_eq_true fun hbit => ?_).trans BitVec.getLsbD_zero.symm
  exact pow_ne_zero i hφ.gfAlpha_ne_zero (hzero i (by simpa [hi] using hbit))

/-- Settles O4: within 11 errors of the codeword sent there is no other. -/
theorem nidSelectsRowSent : Obligations.NidSelectsRowSent := by
  unfold Obligations.NidSelectsRowSent
  intro nac duid e hle
  have hreceived : (nidWord nac duid ^^^ e).extractLsb' 1 63 = enc63 (nac ++ duid) ^^^ e.extractLsb' 1 63 := by
    rw [BitVec.extractLsb'_xor, CodeCommands.extractLsb'_nidWord]
  have hsent : differences (enc63 (nac ++ duid)) ((nidWord nac duid ^^^ e).extractLsb' 1 63) =
      ones (e.extractLsb' 1 63) := by
    rw [hreceived, Parameters.differences_eq_ones, ← BitVec.xor_assoc, BitVec.xor_self, BitVec.zero_xor]
  have hcode := CodeCommands.systematic_enc63
  obtain ⟨nac', duid', hnear, hok⟩ | ⟨hnone, -⟩ := CodeCommands.nidValidate_cases (nidWord nac duid ^^^ e)
  · rw [CodeCommands.extractLsb'_nidWord] at hnear hok
    have hword := hcode.eq_of_differences_le separated_bch63 (hcode.code_enc _) (hcode.code_enc _) hnear
      (hsent.trans_le hle)
    have hinfo : nac' ++ duid' = nac ++ duid := by rw [← hcode.info_enc (nac' ++ duid'), hword, hcode.info_enc]
    rw [hinfo, hsent] at hok
    rw [Feeds.decodeNid_of_ok hok, CodeCommands.extractLsb'_duid, CodeCommands.extractLsb'_nac]
  · have hfar := hnone nac duid
    rw [CodeCommands.extractLsb'_nidWord, hsent] at hfar
    omega

end Sys2Proof.ReedSolomon

/-!
PROOFS. Words in the data bits, and the inner and outer codes of a field (43 R269 to R275, R302): an inner codeword is
read, corrected and written back or left, and an outer codeword is the one within the radius or none.
-/

namespace Sys2Proof.Records

open Sys2Proof.Machine Sys2Proof.Safety Sys2Proof.BinaryCodes Sys2Proof.Words

/-! ## Words in the data bits -/

theorem span_map_getD {b : Bits} {a n : Nat} (h : a + n ≤ b.length) :
    (span a n).map (fun i => b.getD i false) = (b.drop a).take n := by
  refine List.ext_getElem? fun i => ?_
  rcases Nat.lt_or_ge i n with hi | hi
  · rw [List.getElem?_take_of_lt hi, List.getElem?_drop, List.getElem?_map, span, List.getElem?_range' hi,
      Option.map_some, Nat.one_mul, List.getD_eq_getElem?_getD, List.getElem?_eq_getElem (by omega), Option.getD_some]
  · rw [List.getElem?_eq_none (by simpa using hi), List.getElem?_eq_none (by simp; omega)]

theorem toNat_wordAt {b : Bits} {a n : Nat} (h : a + n ≤ b.length) :
    (wordAt b a n).toNat = int ((b.drop a).take n) := by
  have hlt := int_lt ((b.drop a).take n)
  rw [List.length_take, List.length_drop, Nat.min_eq_left (by omega)] at hlt
  rw [wordAt, BitVec.toNat_ofNat, Nat.mod_eq_of_lt hlt]

/-- GATHER over a span reads the word there (R66). -/
theorem gather_span {b : Bits} {a n : Nat} (h : a + n ≤ b.length) :
    gather b (span a n) = .ok (wordAt b a n).toNat := by
  rw [gather_eq_ok fun i hi => by have := mem_span.mp hi; omega, span_map_getD h, toNat_wordAt h]

/-- EXTRACT reads the word there (R65). -/
theorem extract_span {b : Bits} {a n : Nat} (h : a + n ≤ b.length) :
    extract b a (a + n) = .ok (wordAt b a n).toNat := by
  rw [extract_eq_ok (Nat.le_add_right a n) h, toNat_wordAt h, Nat.add_sub_cancel_left]

theorem bitsOf_wordAt {b : Bits} {a n : Nat} (h : a + n ≤ b.length) : bitsOf (wordAt b a n) = (b.drop a).take n :=
  bitsOf_ofNat_int (by simp; omega)

theorem wordAt_bitsOf {n a k : Nat} (v : BitVec n) (h : a + k ≤ n) :
    wordAt (bitsOf v) a k = v.extractLsb' (n - a - k) k := by
  refine bitsOf_injective ?_
  rw [bitsOf_wordAt (by simpa using h), bitsOf_extractLsb' v h]

/-- EXTRACT of a word's bits (R65, R272, R280). -/
theorem extract_bitsOf {n a k : Nat} (v : BitVec n) (h : a + k ≤ n) :
    extract (bitsOf v) a (a + k) = .ok (v.extractLsb' (n - a - k) k).toNat := by
  rw [extract_span (by simpa using h), wordAt_bitsOf v h]

@[simp] theorem overwritten_length {n : Nat} {b : Bits} {a : Nat} (w : BitVec n) (h : a + n ≤ b.length) :
    (overwritten b a w).length = b.length := by
  simp [overwritten]; omega

/-- Writing back what was received changes nothing. -/
theorem overwritten_wordAt {b : Bits} {a n : Nat} (h : a + n ≤ b.length) : overwritten b a (wordAt b a n) = b := by
  rw [overwritten, bitsOf_wordAt h, List.append_assoc, ← List.drop_drop, List.take_append_drop, List.take_append_drop]

theorem getElem?_overwritten_of_lt {n : Nat} {b : Bits} {a i : Nat} (w : BitVec n) (h : a + n ≤ b.length)
    (hi : i < a) : (overwritten b a w)[i]? = b[i]? := by
  rw [overwritten, List.append_assoc, List.getElem?_append_left (by simp; omega), List.getElem?_take_of_lt hi]

theorem getElem?_overwritten_of_le {n : Nat} {b : Bits} {a i : Nat} (w : BitVec n) (h : a + n ≤ b.length)
    (hi : a + n ≤ i) : (overwritten b a w)[i]? = b[i]? := by
  have hlen : (b.take a ++ bitsOf w).length = a + n := by simp; omega
  rw [overwritten, List.getElem?_append_right (by omega), hlen, List.getElem?_drop, Nat.add_sub_cancel' hi]

/-- A word read clear of what was written is as before. -/
theorem wordAt_overwritten {n k : Nat} {b : Bits} {a a' : Nat} (w : BitVec n) (h : a + n ≤ b.length)
    (hclear : a' + k ≤ a ∨ a + n ≤ a') : wordAt (overwritten b a w) a' k = wordAt b a' k := by
  have hpart : ((overwritten b a w).drop a').take k = (b.drop a').take k := by
    refine List.ext_getElem? fun i => ?_
    rcases Nat.lt_or_ge i k with hi | hi
    · rw [List.getElem?_take_of_lt hi, List.getElem?_take_of_lt hi, List.getElem?_drop, List.getElem?_drop]
      rcases hclear with hbefore | hafter
      · exact getElem?_overwritten_of_lt w h (by omega)
      · exact getElem?_overwritten_of_le w h (by omega)
    · rw [List.getElem?_eq_none (by simp; omega), List.getElem?_eq_none (by simp; omega)]
  rw [wordAt, wordAt, hpart]

/-- A word written is read back (R67). -/
theorem wordAt_overwritten_same {n : Nat} {b : Bits} {a : Nat} (w : BitVec n) (h : a + n ≤ b.length) :
    wordAt (overwritten b a w) a n = w := by
  refine bitsOf_injective ?_
  rw [bitsOf_wordAt (by rwa [overwritten_length w h]), overwritten, List.append_assoc,
    List.drop_left' (by simp; omega), List.take_left' (by simp)]

theorem nidWritten_eq (b : Bits) (cw : BitVec 64) : nidWritten b cw = overwritten b 48 cw := rfl

theorem nidWritten_length {b : Bits} (h : 112 ≤ b.length) (cw : BitVec 64) : (nidWritten b cw).length = b.length :=
  overwritten_length cw h

/-! ## Inner codes -/

/-- What an inner decoder's result comes to (R269, R302). -/
def innerOutcome {k n : Nat} (dec : BitVec n → Decoded (BitVec k) (BitVec n)) (r : BitVec n) : InnerOutcome k n :=
  match dec r with
  | .ok m c e => ⟨m, c, e, false⟩
  | .fail => ⟨r.extractLsb' (n - k) k, r, 0, true⟩

/-- A bounded-distance decoder of a separated code corrects to the one codeword within the radius (R150, R269). -/
theorem innerDecoded_innerOutcome {k n t : Nat} {code : BitVec n → Prop} {enc : BitVec k → BitVec n}
    {dec : BitVec n → Decoded (BitVec k) (BitVec n)} (hsys : Systematic code enc) (hsep : Separated code t)
    (hdec : ∀ r, Decodes code t r (dec r)) (r : BitVec n) : InnerDecoded enc t r (innerOutcome dec r) := by
  refine ⟨fun m hm => ?_, fun hfar => ?_⟩
  · rw [differences_comm] at hm ⊢
    rw [innerOutcome, hsys.decodes_eq_ok hsep (hdec r) hm]
  · obtain ⟨c, hc, hle, -⟩ | ⟨-, hfail⟩ := hdec r
    · have := hfar (infoBits k c)
      rw [hsys.enc_info c hc, differences_comm] at this
      omega
    · rw [innerOutcome, hfail]

section Inner

variable {k n : Nat} {dec : BitVec n → Decoded (BitVec k) (BitVec n)}

/-- One inner codeword (R269, R302). -/
theorem innerDecode_span {a : Nat} {acc : InnerAcc} (h : a + n ≤ acc.dbits.length) {x : InnerOutcome k n}
    (hx : x = innerOutcome dec (wordAt acc.dbits a n)) :
    innerDecode dec (span a n) acc = .ok (x.info, {
      dbits := overwritten acc.dbits a x.word, errs := acc.errs + x.errs, fails := acc.fails + x.failed.toNat }) := by
  subst hx
  simp only [innerDecode, gather_span h, bind, Except.bind, BitVec.ofNat_toNat, BitVec.setWidth_eq, innerOutcome]
  cases dec (wordAt acc.dbits a n) with
  | ok m c e => simp only [Feeds.scatter_span h]; rfl
  | fail => simp only [overwritten_wordAt h]; rfl

/-- Inner codewords written back one after the other. -/
def innerWritten (start : Nat → Nat) (is : List Nat) (x : Nat → InnerOutcome k n) (b : Bits) : Bits :=
  is.foldl (fun d i => overwritten d (start i) (x i).word) b

variable {start : Nat → Nat} {is : List Nat} {x : Nat → InnerOutcome k n}

theorem innerWritten_length {b : Bits} (h : ∀ i ∈ is, start i + n ≤ b.length) :
    (innerWritten start is x b).length = b.length := by
  induction is generalizing b with
  | nil => rfl
  | cons i is ih =>
    obtain ⟨hi, hrest⟩ := List.forall_mem_cons.mp h
    have hlen := overwritten_length (x i).word hi
    rw [innerWritten, List.foldl_cons, ← innerWritten, ih (by rwa [hlen]), hlen]

/-- Bits clear of all that was written are as before. -/
theorem getElem?_innerWritten {b : Bits} {p : Nat} (h : ∀ i ∈ is, start i + n ≤ b.length)
    (hclear : ∀ i ∈ is, p < start i ∨ start i + n ≤ p) : (innerWritten start is x b)[p]? = b[p]? := by
  induction is generalizing b with
  | nil => rfl
  | cons i is ih =>
    obtain ⟨hi, hrest⟩ := List.forall_mem_cons.mp h
    obtain ⟨hp, hclear⟩ := List.forall_mem_cons.mp hclear
    rw [innerWritten, List.foldl_cons, ← innerWritten, ih (by rwa [overwritten_length _ hi]) hclear]
    rcases hp with hp | hp
    · exact getElem?_overwritten_of_lt _ hi hp
    · exact getElem?_overwritten_of_le _ hi hp

/-- The inner codewords of a unit, each decoded from the bits as received (R269, R271, R278, R282). -/
theorem innerDecodeAll_spans {acc : InnerAcc} (hsep : is.Pairwise fun i j => start i + n ≤ start j)
    (h : ∀ i ∈ is, start i + n ≤ acc.dbits.length)
    (hx : ∀ i ∈ is, x i = innerOutcome dec (wordAt acc.dbits (start i) n)) :
    innerDecodeAll dec (is.map fun i => span (start i) n) acc = .ok (is.map fun i => (x i).info, {
      dbits := innerWritten start is x acc.dbits
      errs := acc.errs + (is.map fun i => (x i).errs).sum
      fails := acc.fails + (is.filter fun i => (x i).failed).length }) := by
  induction is generalizing acc with
  | nil => rfl
  | cons i is ih =>
    obtain ⟨hi, hrest⟩ := List.forall_mem_cons.mp h
    obtain ⟨hxi, hxrest⟩ := List.forall_mem_cons.mp hx
    obtain ⟨hbefore, hsep⟩ := List.pairwise_cons.mp hsep
    have hlater := ih (acc := {
        dbits := overwritten acc.dbits (start i) (x i).word, errs := acc.errs + (x i).errs,
        fails := acc.fails + (x i).failed.toNat }) hsep
      (fun j hj => by rw [overwritten_length _ hi]; exact hrest j hj)
      (fun j hj => by rw [wordAt_overwritten _ hi (.inr (hbefore j hj))]; exact hxrest j hj)
    simp only [List.map_cons, innerDecodeAll, innerDecode_span hi hxi, bind, Except.bind, hlater, pure, Except.pure]
    rw [List.sum_cons, Nat.add_assoc, List.filter_cons]
    cases (x i).failed <;> simp [innerWritten, Nat.add_assoc, Nat.add_comm]

/-- The inner codewords of a unit, from its data bits. -/
theorem innerDecodeAll_range {m : Nat} {b : Bits} (hsep : (List.range m).Pairwise fun i j => start i + n ≤ start j)
    (h : ∀ i < m, start i + n ≤ b.length) (hx : ∀ i < m, x i = innerOutcome dec (wordAt b (start i) n)) :
    innerDecodeAll dec ((List.range m).map fun i => span (start i) n) (startInner b) =
      .ok ((List.range m).map fun i => (x i).info, {
        dbits := innerWritten start (List.range m) x b, errs := innerErrors m x, fails := innerFailures m x }) := by
  have hall := innerDecodeAll_spans (acc := startInner b) hsep (fun i hi => h i (List.mem_range.mp hi))
    fun i hi => hx i (List.mem_range.mp hi)
  rw [hall, innerErrors, innerFailures]
  simp only [startInner, Nat.zero_add]

/-- Words written side by side (R271, R282). -/
theorem foldl_overwritten_adjacent {m a : Nat} {b : Bits} (w : Nat → BitVec n) (h : a + n * m ≤ b.length) :
    (List.range m).foldl (fun d i => overwritten d (a + n * i) (w i)) b =
      b.take a ++ ((List.range m).flatMap fun i => bitsOf (w i)) ++ b.drop (a + n * m) := by
  induction m with
  | zero => simp
  | succ m ih =>
    rw [Nat.mul_succ] at h
    have hlen : (b.take a ++ ((List.range m).flatMap fun i => bitsOf (w i))).length = a + n * m := by
      simp [List.length_flatMap, Nat.mul_comm m]; omega
    rw [List.range_succ, List.foldl_append, List.foldl_cons, List.foldl_nil, ih (by omega), overwritten,
      List.take_left' hlen, List.drop_append, hlen, List.drop_eq_nil_of_le (by omega), List.nil_append,
      List.drop_drop, List.flatMap_append, List.flatMap_singleton, Nat.mul_succ, List.append_assoc (b.take a)]
    congr 2
    omega

end Inner

/-! ## Outer codes -/

theorem hexbitDifferences_eq (a b : List Hexbit) : hexbitDifferences a b = sdist a b := by
  induction a generalizing b with
  | nil => rfl
  | cons x a ih =>
    cases b with
    | nil => rfl
    | cons y b =>
      rw [sdist, ← ih, hexbitDifferences, List.zip_cons_cons, List.filter_cons, hexbitDifferences]
      by_cases h : x = y
      · simp [h]
      · simp [h, Nat.add_comm]

/-- What the outer decoder answers, as an outcome (R275). -/
def outerOutcome (w r : Nat) (failErrs : List Hexbit → Nat) (hs : List Hexbit) : OuterOutcome w :=
  ⟨(outerDecode w r failErrs hs).1, (outerDecode w r failErrs hs).2.1, (outerDecode w r failErrs hs).2.2⟩

theorem outerDecode_eq {w r : Nat} {failErrs : List Hexbit → Nat} {hs : List Hexbit} {y : OuterOutcome w}
    (hy : y = outerOutcome w r failErrs hs) : outerDecode w r failErrs hs = (y.value, y.status, y.errs) := by
  rw [hy]; rfl

/-- The outer code of a field of `6·k` bits (R201, R202, R275). -/
theorem outerDecoded_outerOutcome {w k r : Nat} {failErrs : List Hexbit → Nat} {hs : List Hexbit} (hw : w = 6 * k)
    (hlen : hs.length = k + r) (hn : k + r ≤ 63) : OuterDecoded r hs (outerOutcome w r failErrs hs) := by
  subst hw
  have hk : 6 * k / 6 = k := Nat.mul_div_cancel_left k (by decide)
  simp only [OuterDecoded, hk, hexbitDifferences_eq]
  have hencoded (v : BitVec (6 * k)) : (rsEncode r (unpack 6 k v)).length = k + r := by
    rw [ReedSolomon.rsEncode_length, unpack_length]
  obtain ⟨c, hc, hcode, hdist, hok⟩ | ⟨hnone, hfail⟩ := ReedSolomon.rsDecode_cases hlen hn (Nat.le_add_left r k)
  · rw [Nat.add_sub_cancel] at hok
    have hmessage : rsEncode r (c.take k) = c := by
      have := ReedSolomon.rsEncode_take (c := c) (by omega) (by omega) hcode
      rwa [hc, Nat.add_sub_cancel] at this
    have hlenTake : (c.take k).length = k := by simp [hc]
    have hvalue : outerOutcome (6 * k) r failErrs hs = ⟨pack (6 * k) (c.take k), .ok, sdist c hs⟩ := by
      rw [outerOutcome, outerDecode_ok hok, pack_eq]
    refine ⟨fun v hv => ?_, fun hfar => ?_⟩
    · have heq : rsEncode r (unpack 6 k v) = c := by
        refine ReedSolomon.eq_of_sdist_le ((hencoded v).trans hc.symm) (by rw [hencoded]; exact hn)
          (ReedSolomon.isReedSolomon_rsEncode r _) hcode ?_
        have htri := ReedSolomon.sdist_triangle ((hencoded v).trans hlen.symm) (hlen.trans hc.symm)
        rw [ReedSolomon.sdist_comm hs c] at htri
        omega
      have htake := ReedSolomon.take_rsEncode r (unpack 6 k v)
      rw [unpack_length, heq] at htake
      rw [hvalue, heq, htake, pack_unpack]
    · have := hfar (pack (6 * k) (c.take k))
      rw [unpack_pack hlenTake, hmessage] at this
      omega
  · have hvalue : outerOutcome (6 * k) r failErrs hs = ⟨0, .fail, failErrs hs⟩ := by
      rw [outerOutcome, outerDecode_fail hfail]
    refine ⟨fun v hv => ?_, fun _ => by rw [hvalue]; exact ⟨rfl, rfl⟩⟩
    have := hnone _ (hencoded v) (ReedSolomon.isReedSolomon_rsEncode r _)
    omega

theorem failCountsNothing_outerOutcome (w r : Nat) (hs : List Hexbit) :
    FailCountsNothing (outerOutcome w r noErrs hs) := by
  intro hstatus
  cases hdec : rsDecode r hs with
  | ok m c e => simp [outerOutcome, outerDecode_ok hdec] at hstatus
  | fail => simp [outerOutcome, outerDecode_fail hdec]

end Sys2Proof.Records

/-!
PROOFS. The records of the fixed-size units with fields (43 R271 to R282, R300 to R302; 45 R360 to R362): HDU, TDULC,
LDU1 and LDU2.
-/

namespace Sys2Proof.Records

open Sys2Proof.Machine Sys2Proof.Safety Sys2Proof.BinaryCodes Sys2Proof.Words Sys2Proof.CodeCommands

/-! ## HDU and TDULC: adjacent codewords -/

/-- The inner codewords of a unit as its data bits hold them, decoded (R269). -/
def decodedAt {k n : Nat} (dec : BitVec n → Decoded (BitVec k) (BitVec n)) (start : Nat → Nat) (b : Bits) (i : Nat) :
    InnerOutcome k n := innerOutcome dec (wordAt b (start i) n)

theorem wordAt_nidWritten {b : Bits} {a n : Nat} (cw : BitVec 64) (h : 112 ≤ b.length) (ha : 112 ≤ a) :
    wordAt (nidWritten b cw) a n = wordAt b a n := wordAt_overwritten cw h (.inr ha)

theorem drop_nidWritten {b : Bits} {a : Nat} (cw : BitVec 64) (h : 112 ≤ b.length) (ha : 112 ≤ a) :
    (nidWritten b cw).drop a = b.drop a := by
  refine List.ext_getElem? fun i => ?_
  rw [List.getElem?_drop, List.getElem?_drop, nidWritten_eq]
  exact getElem?_overwritten_of_le cw h (by omega)

/-- The inner codewords that stand side by side from the body's first bit, decoded and written back (R271, R282). -/
theorem innerDecodeAll_body {k n m : Nat} {dec : BitVec n → Decoded (BitVec k) (BitVec n)} {b : Bits} (cw : BitVec 64)
    {x : Nat → InnerOutcome k n} (h : 112 + n * m ≤ b.length) (hx : x = decodedAt dec (fun i => 112 + n * i) b) :
    innerDecodeAll dec ((List.range m).map fun i => span (bodyStart + n * i) n) (startInner (nidWritten b cw)) =
      .ok ((List.range m).map fun i => (x i).info, {
        dbits := (nidWritten b cw).take 112 ++ ((List.range m).flatMap fun i => bitsOf (x i).word) ++
          b.drop (112 + n * m)
        errs := innerErrors m x, fails := innerFailures m x }) := by
  have hend {i : Nat} (hi : i < m) : n * i + n ≤ n * m := by rw [← Nat.mul_succ]; exact Nat.mul_le_mul_left n hi
  have hlen := nidWritten_length (cw := cw) (show 112 ≤ b.length by omega)
  have hsep : (List.range m).Pairwise fun i j => bodyStart + n * i + n ≤ bodyStart + n * j :=
    List.pairwise_lt_range.imp fun {i j} hij => by
      rw [Nat.add_assoc, ← Nat.mul_succ]; exact Nat.add_le_add_left (Nat.mul_le_mul_left n hij) _
  have hall := innerDecodeAll_range (start := fun i => bodyStart + n * i) (dec := dec) (b := nidWritten b cw) (x := x)
    hsep (fun i hi => by have := hend hi; rw [bodyStart]; omega)
    fun i _ => by rw [hx, decodedAt, bodyStart, wordAt_nidWritten cw (by omega) (by omega)]
  have hwritten := foldl_overwritten_adjacent (a := 112) (b := nidWritten b cw) (m := m) (fun i => (x i).word)
    (by omega)
  rw [hall, ← drop_nidWritten cw (by omega) (by omega), ← hwritten]
  rfl

theorem innerDecoded_golay18 (r : BitVec 18) : InnerDecoded enc18 3 r (innerOutcome dec18 r) :=
  innerDecoded_innerOutcome systematic_enc18 separated_golay18 (systematic_enc18.decodes_bdd 3) r

theorem innerDecoded_golay24 (r : BitVec 24) : InnerDecoded enc24 3 r (innerOutcome dec24 r) :=
  innerDecoded_innerOutcome systematic_enc24 separated_golay24 (systematic_enc24.decodes_bdd 3) r

/-- The five fields of a header (R272, R273, R301). -/
theorem decodeHdu_eq {b d : Bits} {hs : List Hexbit} {e f : Nat}
    (h : innerDecodeAll dec18 hduCodewords (startInner b) = .ok (hs, ⟨d, e, f⟩)) {y : OuterOutcome 120}
    (hy : y = outerOutcome 120 16 noErrs hs) :
    decodeHdu b = .ok {
      dbits := d
      fields := .hdu {
        mi := y.value.extractLsb' 48 72, mfid := y.value.extractLsb' 40 8, algid := y.value.extractLsb' 32 8,
        kid := y.value.extractLsb' 16 16, tgid := y.value.extractLsb' 0 16, hdrStatus := y.status,
        hdrRsErrs := y.errs, innerErrs := e, innerFail := f }
      payload := octetsOf 15 y.value } := by
  have houter : outerDecode 120 16 noErrs hs = (y.value, y.status, y.errs) := outerDecode_eq hy
  have hmi : extract (bitsOf y.value) 0 72 = .ok (y.value.extractLsb' 48 72).toNat :=
    extract_bitsOf (a := 0) (k := 72) y.value (by decide)
  have hmfid : extract (bitsOf y.value) 72 80 = .ok (y.value.extractLsb' 40 8).toNat :=
    extract_bitsOf (a := 72) (k := 8) y.value (by decide)
  have halgid : extract (bitsOf y.value) 80 88 = .ok (y.value.extractLsb' 32 8).toNat :=
    extract_bitsOf (a := 80) (k := 8) y.value (by decide)
  have hkid : extract (bitsOf y.value) 88 104 = .ok (y.value.extractLsb' 16 16).toNat :=
    extract_bitsOf (a := 88) (k := 16) y.value (by decide)
  have htgid : extract (bitsOf y.value) 104 120 = .ok (y.value.extractLsb' 0 16).toNat :=
    extract_bitsOf (a := 104) (k := 16) y.value (by decide)
  have hpayload : octets (bitsOf y.value) = octetsOf 15 y.value := octets_bitsOf (n := 15) y.value
  simp only [decodeHdu, h, houter, hmi, hmfid, halgid, hkid, htgid, hpayload, bind, Except.bind, pure, Except.pure,
    BitVec.ofNat_toNat, BitVec.setWidth_eq]

/-- Settles O50. -/
theorem hduRecord : Obligations.HduRecord := by
  unfold Obligations.HduRecord
  intro v s u b hv hst hunit hvar hlife hlen hb
  have hsize : fixedSize u.variant = some 396 := by rw [hvar]; rfl
  have hbits : b.length = 770 := by rw [hb, dataBits_length]; simp [fed, hlen, ndata, statusPeriod]
  have hinner := innerDecodeAll_body (dec := dec18) (m := 36) (b := b) u.nidCw (by omega) rfl
  refine ⟨decodedAt dec18 (fun i => 112 + 18 * i) b, _, fun i _ => innerDecoded_golay18 _,
    outerDecoded_outerOutcome (k := 20) rfl (by simp) (by decide), failCountsNothing_outerOutcome 120 16 _, ?_⟩
  have hx := decodeHdu_eq hinner rfl
  subst hb
  rw [Feeds.exec_feed_fixed_last hv hst hunit hlife hsize (by omega) (by simp only [decodeVariant, hvar]; exact hx),
    recordOf, hvar]

/-- The Link Control of a terminator (R282, R301). -/
theorem decodeTdulc_eq {b d : Bits} {ws : List (BitVec 12)} {e f : Nat}
    (h : innerDecodeAll dec24 tdulcCodewords (startInner b) = .ok (ws, ⟨d, e, f⟩)) {y : OuterOutcome 72}
    (hy : y = outerOutcome 72 12 noErrs (ws.flatMap hexbitPair)) :
    decodeTdulc b = .ok {
      dbits := d
      fields := .tdulc { lc := y.value, lcStatus := y.status, lcRsErrs := y.errs, innerErrs := e, innerFail := f }
      payload := octetsOf 9 y.value } := by
  have houter : outerDecode 72 12 noErrs (ws.flatMap hexbitPair) = (y.value, y.status, y.errs) := outerDecode_eq hy
  have hpayload : octets (bitsOf y.value) = octetsOf 9 y.value := octets_bitsOf (n := 9) y.value
  simp only [decodeTdulc, h, houter, hpayload, bind, Except.bind, pure, Except.pure]

/-- Settles O51. -/
theorem tdulcRecord : Obligations.TdulcRecord := by
  unfold Obligations.TdulcRecord
  intro v s u b hv hst hunit hvar hlife hlen hb
  have hsize : fixedSize u.variant = some 216 := by rw [hvar]; rfl
  have hbits : b.length = 420 := by rw [hb, dataBits_length]; simp [fed, hlen, ndata, statusPeriod]
  have hinner := innerDecodeAll_body (dec := dec24) (m := 12) (b := b) u.nidCw (by omega) rfl
  refine ⟨decodedAt dec24 (fun i => 112 + 24 * i) b, _, fun i _ => innerDecoded_golay24 _,
    outerDecoded_outerOutcome (k := 12) rfl (by simp [List.length_flatMap]) (by decide),
    failCountsNothing_outerOutcome 72 12 _, ?_⟩
  have hx := decodeTdulc_eq hinner rfl
  rw [List.flatMap_map] at hx
  subst hb
  rw [Feeds.exec_feed_fixed_last hv hst hunit hlife hsize (by omega) (by simp only [decodeVariant, hvar]; exact hx),
    recordOf, hvar]
  rfl

/-! ## LDU1 and LDU2 -/

theorem innerDecoded_hamming10 (r : BitVec 10) : InnerDecoded encH10 1 r (innerOutcome decH10 r) :=
  innerDecoded_innerOutcome Hamming.systematic_encH10 Hamming.separated_hamming10 Hamming.decodes_decH10 r

theorem innerDecoded_cyclic16 (r : BitVec 16) : InnerDecoded encC16 2 r (innerOutcome decC16 r) :=
  innerDecoded_innerOutcome systematic_encC16 separated_cyclic16 (systematic_encC16.decodes_bdd 2) r

/-- The codewords of the embedded field of an LDU (R278). -/
def lduInner : Bits → Nat → InnerOutcome 6 10 := decodedAt decH10 lduCodewordStart

/-- The two Low-Speed Data codewords of an LDU (R281). -/
def lduLsd : Bits → Nat → InnerOutcome 8 16 := decodedAt decC16 fun j => 1504 + 16 * j

theorem lduDecoded (b : Bits) : LduDecoded b (lduInner b) (lduLsd b) :=
  ⟨fun _ _ => innerDecoded_hamming10 _, fun _ _ => innerDecoded_cyclic16 _⟩

theorem lduCodewordStart_le : ∀ j < 24, lduCodewordStart j + 10 ≤ 1360 := by decide

theorem lduCodewordStart_separated :
    (List.range 24).Pairwise fun i j => lduCodewordStart i + 10 ≤ lduCodewordStart j := by decide

/-- The data bits of an LDU with its embedded field written back (R278, R302). -/
def lduInnerWritten (b : Bits) : Bits := innerWritten lduCodewordStart (List.range 24) (lduInner b) b

section Ldu

variable {b : Bits} (h : 1680 ≤ b.length)
include h

theorem innerDecodeAll_ldu : innerDecodeAll decH10 lduCodewords (startInner b) =
    .ok ((List.range 24).map fun j => (lduInner b j).info,
      ⟨lduInnerWritten b, innerErrors 24 (lduInner b), innerFailures 24 (lduInner b)⟩) :=
  innerDecodeAll_range (start := lduCodewordStart) lduCodewordStart_separated
    (fun j hj => by have := lduCodewordStart_le j hj; omega) fun _ _ => rfl

theorem lduInnerWritten_length : (lduInnerWritten b).length = b.length :=
  innerWritten_length fun j hj => by have := lduCodewordStart_le j (List.mem_range.mp hj); omega

/-- The embedded field ends before the Low-Speed Data. -/
theorem wordAt_lduInnerWritten {a : Nat} (ha : 1360 ≤ a) (n : Nat) :
    wordAt (lduInnerWritten b) a n = wordAt b a n := by
  have hpart : (lduInnerWritten b).drop a = b.drop a := by
    refine List.ext_getElem? fun i => ?_
    rw [List.getElem?_drop, List.getElem?_drop]
    refine getElem?_innerWritten (fun j hj => ?_) fun j hj => .inr ?_ <;>
      have := lduCodewordStart_le j (List.mem_range.mp hj) <;> omega
  rw [wordAt, wordAt, hpart]

end Ldu

theorem lduWritten_eq (b : Bits) : lduWritten b (lduInner b) (lduLsd b) =
    overwritten (overwritten (lduInnerWritten b) 1504 (lduLsd b 0).word) 1520 (lduLsd b 1).word := rfl

/-- One Low-Speed Data codeword (R281). -/
theorem decodeLsd_eq {b : Bits} {a : Nat} (h : a + 16 ≤ b.length) {x : InnerOutcome 8 16}
    (hx : x = innerOutcome decC16 (wordAt b a 16)) : decodeLsd b a = .ok (lsdOf x, overwritten b a x.word) := by
  subst hx
  simp only [decodeLsd, extract_span h, bind, Except.bind, BitVec.ofNat_toNat, BitVec.setWidth_eq, innerOutcome]
  cases decC16 (wordAt b a 16) with
  | ok m c e => simp only [Feeds.scatter_span h]; rfl
  | fail => simp only [overwritten_wordAt h]; rfl

/-- The Low-Speed Data, after the embedded field (R281). -/
theorem decodeLsdAll_ldu {b : Bits} (h : 1680 ≤ b.length) : decodeLsdAll lsdStarts (lduInnerWritten b) =
    .ok ([lsdOf (lduLsd b 0), lsdOf (lduLsd b 1)], lduWritten b (lduInner b) (lduLsd b)) := by
  have hlen := lduInnerWritten_length h
  have hfirst : decodeLsd (lduInnerWritten b) 1504 =
      .ok (lsdOf (lduLsd b 0), overwritten (lduInnerWritten b) 1504 (lduLsd b 0).word) :=
    decodeLsd_eq (by omega) (by rw [wordAt_lduInnerWritten h (by decide)]; rfl)
  have hsecond : decodeLsd (overwritten (lduInnerWritten b) 1504 (lduLsd b 0).word) 1520 =
      .ok (lsdOf (lduLsd b 1), lduWritten b (lduInner b) (lduLsd b)) := by
    rw [lduWritten_eq]
    refine decodeLsd_eq (by rw [overwritten_length _ (by omega)]; omega) ?_
    rw [wordAt_overwritten _ (by omega) (.inr (by decide)), wordAt_lduInnerWritten h (by decide)]
    rfl
  simp only [lsdStarts, decodeLsdAll, hfirst, hsecond, bind, Except.bind, pure, Except.pure]

/-! ### Voice -/

/-- A voice entry as received (R361, R362 with `IMBE_FEC` false). -/
def rawVoice (b : Bits) (slot : Nat) : VoiceEntry where
  raw := BitVec.ofNat 144 (int ((voicePositions slot).map fun p => b.getD p false))
  vstatus := .raw
  info := 0
  verrs := 0

theorem voiceEntries_eq {b : Bits} {slots : List Nat} (h : ∀ slot ∈ slots, slot + 144 ≤ b.length) :
    voiceEntries b slots = .ok (slots.map (rawVoice b)) := by
  induction slots with
  | nil => rfl
  | cons slot slots ih =>
    obtain ⟨hslot, hslots⟩ := List.forall_mem_cons.mp h
    have hgather : gather b (voicePositions slot) =
        .ok (int ((voicePositions slot).map fun p => b.getD p false)) := by
      refine gather_eq_ok fun p hp => ?_
      obtain ⟨q, hq, rfl⟩ := List.mem_map.mp hp
      have := List.mem_range.mp ((Parameters.voicePerm_perm.mem_iff).mp hq)
      omega
    have hraw : voiceRaw b slot = .ok (rawVoice b slot).raw := by rw [voiceRaw, hgather]; rfl
    simp only [voiceEntries, hraw, ih hslots, bind, Except.bind, pure, Except.pure]
    rfl

theorem voicePerm_length : voicePerm.length = 144 := by simp [voicePerm]

theorem rawVoice_getMsbD (b : Bits) (slot : Nat) {j : Nat} (hj : j < 144) :
    (rawVoice b slot).raw.getMsbD j = b.getD (slot + voicePerm.getD j 0) false := by
  have hj' : j < voicePerm.length := by rwa [voicePerm_length]
  rw [rawVoice, getMsbD_ofNat_int (by simp [voicePositions, voicePerm_length]) hj]
  simp [voicePositions, hj']

/-- The voice slots hold neither the embedded field nor the Low-Speed Data (R119, R360). -/
theorem getD_lduWritten {b : Bits} (h : 1680 ≤ b.length) {i p : Nat} (hi : i < 9) (hp : p < 144) :
    (lduWritten b (lduInner b) (lduLsd b)).getD (voiceStart i + p) false = b.getD (voiceStart i + p) false := by
  have hlen := lduInnerWritten_length h
  have hfield : ∀ i < 9, ∀ j < 24,
      voiceStart i + 144 ≤ lduCodewordStart j ∨ lduCodewordStart j + 10 ≤ voiceStart i := by decide
  have hlsd : ∀ i < 9, voiceStart i + 144 ≤ 1504 ∨ 1536 ≤ voiceStart i := by decide
  have hinner : (lduInnerWritten b)[voiceStart i + p]? = b[voiceStart i + p]? := by
    refine getElem?_innerWritten (fun j hj => ?_) fun j hj => ?_
    · have := lduCodewordStart_le j (List.mem_range.mp hj); omega
    · have := hfield i hi j (List.mem_range.mp hj); omega
  have hlsd := hlsd i hi
  rw [List.getD_eq_getElem?_getD, List.getD_eq_getElem?_getD, ← hinner, lduWritten_eq]
  have hfirst := overwritten_length (a := 1504) (b := lduInnerWritten b) (lduLsd b 0).word (by omega)
  rcases hlsd with hbefore | hafter
  · rw [getElem?_overwritten_of_lt _ (by omega) (by omega), getElem?_overwritten_of_lt _ (by omega) (by omega)]
  · rw [getElem?_overwritten_of_le _ (by omega) (by omega), getElem?_overwritten_of_le _ (by omega) (by omega)]

theorem lduWritten_length {b : Bits} (h : 1680 ≤ b.length) :
    (lduWritten b (lduInner b) (lduLsd b)).length = b.length := by
  have hlen := lduInnerWritten_length h
  have hfirst := overwritten_length (a := 1504) (b := lduInnerWritten b) (lduLsd b 0).word (by omega)
  rw [lduWritten_eq, overwritten_length _ (by omega), hfirst, hlen]

/-- The voice entries of an LDU, read after its codewords are written back (R362, R367). -/
def lduVoice (b : Bits) : List VoiceEntry := voiceSlots.map (rawVoice (lduWritten b (lduInner b) (lduLsd b)))

theorem voiceEntries_ldu {b : Bits} (h : 1680 ≤ b.length) :
    voiceEntries (lduWritten b (lduInner b) (lduLsd b)) voiceSlots = .ok (lduVoice b) := by
  have hend : ∀ slot ∈ voiceSlots, slot + 144 ≤ 1680 := by decide
  exact voiceEntries_eq fun slot hslot => (hend slot hslot).trans (h.trans (lduWritten_length h).ge)

theorem isRawVoice_lduVoice {b : Bits} (h : 1680 ≤ b.length) : IsRawVoice b (lduVoice b) := by
  refine ⟨rfl, fun i hi => ⟨(rawVoice (lduWritten b (lduInner b) (lduLsd b)) (voiceStart i)).raw, ?_, fun j hj => ?_⟩⟩
  · have hslot : voiceSlots[i]? = some (voiceStart i) := by
      have hall : ∀ i < 9, voiceSlots[i]? = some (voiceStart i) := by decide
      exact hall i hi
    rw [lduVoice, List.getElem?_map, hslot]
    rfl
  · have hp : voicePerm.getD j 0 < 144 := by
      have hj' : j < voicePerm.length := by rwa [voicePerm_length]
      rw [List.getD_eq_getElem _ _ hj']
      exact List.mem_range.mp ((Parameters.voicePerm_perm.mem_iff).mp (List.getElem_mem hj'))
    rw [rawVoice_getMsbD _ _ hj, getD_lduWritten h hi hp]

/-- The LSD and voice octets of an LDU payload (R301). -/
theorem lduTail_eq (x y : LsdEntry) (voice : List VoiceEntry) :
    lduTail [x, y] voice = [x.value, y.value] ++ voice.flatMap fun e => octetsOf 18 e.raw := by
  have hraw (e : VoiceEntry) : octets (bitsOf e.raw) = octetsOf 18 e.raw := octets_bitsOf (n := 18) e.raw
  simp only [lduTail, hraw, List.map_cons, List.map_nil]

/-! ### The records -/

theorem decodeLdu1_eq {b : Bits} (h : 1680 ≤ b.length) {y : OuterOutcome 72}
    (hy : y = outerOutcome 72 12 noErrs ((List.range 24).map fun j => (lduInner b j).info)) :
    decodeLdu1 b = .ok {
      dbits := lduWritten b (lduInner b) (lduLsd b)
      fields := .ldu1 {
        lc := y.value, lcStatus := y.status, lcRsErrs := y.errs, innerErrs := innerErrors 24 (lduInner b),
        innerFail := innerFailures 24 (lduInner b), lsd := [lsdOf (lduLsd b 0), lsdOf (lduLsd b 1)],
        voice := lduVoice b }
      payload := octetsOf 9 y.value ++ [(lsdOf (lduLsd b 0)).value, (lsdOf (lduLsd b 1)).value] ++
        (lduVoice b).flatMap fun e => octetsOf 18 e.raw } := by
  have houter : outerDecode 72 12 noErrs ((List.range 24).map fun j => (lduInner b j).info) =
      (y.value, y.status, y.errs) := outerDecode_eq hy
  have hpayload : octets (bitsOf y.value) = octetsOf 9 y.value := octets_bitsOf (n := 9) y.value
  simp only [decodeLdu1, innerDecodeAll_ldu h, houter, decodeLsdAll_ldu h, voiceEntries_ldu h, lduTail_eq, hpayload,
    bind, Except.bind, pure, Except.pure, List.append_assoc]

theorem decodeLdu2_eq {b : Bits} (h : 1680 ≤ b.length) {y : OuterOutcome 96}
    (hy : y = outerOutcome 96 8 Config.esErrsOnFail ((List.range 24).map fun j => (lduInner b j).info)) :
    decodeLdu2 b = .ok {
      dbits := lduWritten b (lduInner b) (lduLsd b)
      fields := .ldu2 {
        mi := y.value.extractLsb' 24 72, algid := y.value.extractLsb' 16 8, kid := y.value.extractLsb' 0 16,
        esStatus := y.status, esRsErrs := y.errs, innerErrs := innerErrors 24 (lduInner b),
        innerFail := innerFailures 24 (lduInner b), lsd := [lsdOf (lduLsd b 0), lsdOf (lduLsd b 1)],
        voice := lduVoice b }
      payload := octetsOf 12 y.value ++ [(lsdOf (lduLsd b 0)).value, (lsdOf (lduLsd b 1)).value] ++
        (lduVoice b).flatMap fun e => octetsOf 18 e.raw } := by
  have houter : outerDecode 96 8 Config.esErrsOnFail ((List.range 24).map fun j => (lduInner b j).info) =
      (y.value, y.status, y.errs) := outerDecode_eq hy
  have hmi : extract (bitsOf y.value) 0 72 = .ok (y.value.extractLsb' 24 72).toNat :=
    extract_bitsOf (a := 0) (k := 72) y.value (by decide)
  have halgid : extract (bitsOf y.value) 72 80 = .ok (y.value.extractLsb' 16 8).toNat :=
    extract_bitsOf (a := 72) (k := 8) y.value (by decide)
  have hkid : extract (bitsOf y.value) 80 96 = .ok (y.value.extractLsb' 0 16).toNat :=
    extract_bitsOf (a := 80) (k := 16) y.value (by decide)
  have hpayload : octets (bitsOf y.value) = octetsOf 12 y.value := octets_bitsOf (n := 12) y.value
  simp only [decodeLdu2, innerDecodeAll_ldu h, houter, hmi, halgid, hkid, decodeLsdAll_ldu h, voiceEntries_ldu h,
    lduTail_eq, hpayload, bind, Except.bind, pure, Except.pure, List.append_assoc, BitVec.ofNat_toNat,
    BitVec.setWidth_eq]

theorem ldu_length {s : State} {v : BitVec 8} {cw : BitVec 64} (h : s.fbuf.length = 863) :
    1680 ≤ (nidWritten (dataBits (fed s v)) cw).length := by
  have hlen : (dataBits (fed s v)).length = 1680 := by rw [dataBits_length]; simp [fed, h, ndata, statusPeriod]
  rw [nidWritten_length (by omega), hlen]

/-- Settles O52. -/
theorem ldu1Record : Obligations.Ldu1Record := by
  unfold Obligations.Ldu1Record
  intro v s u b hv hst hunit hvar hlife hlen hb
  have hsize : fixedSize u.variant = some 864 := by rw [hvar]; rfl
  have hbits : 1680 ≤ b.length := hb ▸ ldu_length hlen
  refine ⟨lduInner b, lduLsd b, _, lduVoice b, lduDecoded b,
    outerDecoded_outerOutcome (k := 12) rfl (by simp) (by decide), failCountsNothing_outerOutcome 72 12 _,
    isRawVoice_lduVoice hbits, ?_⟩
  have hx := decodeLdu1_eq hbits rfl
  subst hb
  rw [Feeds.exec_feed_fixed_last hv hst hunit hlife hsize (by omega) (by simp only [decodeVariant, hvar]; exact hx),
    recordOf, hvar]

/-- Settles O53. -/
theorem ldu2Record : Obligations.Ldu2Record := by
  unfold Obligations.Ldu2Record
  intro v s u b hv hst hunit hvar hlife hlen hb
  have hsize : fixedSize u.variant = some 864 := by rw [hvar]; rfl
  have hbits : 1680 ≤ b.length := hb ▸ ldu_length hlen
  refine ⟨lduInner b, lduLsd b, _, lduVoice b, lduDecoded b,
    outerDecoded_outerOutcome (k := 16) (failErrs := Config.esErrsOnFail) rfl (by simp) (by decide),
    isRawVoice_lduVoice hbits, ?_⟩
  have hx := decodeLdu2_eq hbits rfl
  subst hb
  rw [Feeds.exec_feed_fixed_last hv hst hunit hlife hsize (by omega) (by simp only [decodeVariant, hvar]; exact hx),
    recordOf, hvar]

end Sys2Proof.Records

/-!
PROOFS. The FEED of a PDU (43 R285 to R290): it appends, decodes a block at its end, or emits the record with the
decoded blocks written back.
-/

namespace Sys2Proof.PduFeeds

open Sys2Proof.Machine Sys2Proof.Safety Sys2Proof.Records

/-! ## The end of a block -/

theorem isComplete_pdu {u : DataUnit} (hvar : u.variant = .pdu) (pos : Nat) :
    isComplete pos u = true ↔ u.total = some u.blocks.length := by
  rw [isComplete, hvar]
  exact beq_iff_eq

/-- The rate of the next block, as R285 and R288 say it. -/
theorem nextRate_eq (duid : BitVec 4) (blocks : List Block) :
    nextRate duid blocks =
      if blocks.length ≠ 0 ∧ duid ≠ 0x7 ∧
        (blocks.head?.map fun H => (H.octets.getD 0 0).extractLsb' 0 5) = some 0x16
      then .threeQuarters else .half := by
  cases blocks with
  | nil => rfl
  | cons H blocks =>
    have hformat : pduFormat H = (H.octets.getD 0 0).extractLsb' 0 5 :=
      (BitVec.setWidth_eq_extractLsb' (by decide)).trans rfl
    rw [nextRate, List.head?_cons, Option.map_some]
    dsimp only
    rw [pduRate, hformat]
    by_cases hduid : duid = 0x7
    · simp [hduid]
    · by_cases hf : (H.octets.getD 0 0).extractLsb' 0 5 = 0x16
      · rw [if_neg hduid, if_pos hf, if_pos ⟨by simp, hduid, congrArg some hf⟩]
      · rw [if_neg hduid, if_neg hf, if_neg fun h => hf (Option.some.inj h.2.2)]

/-- At the end of block k the block is decoded from its 196 bits (R286). -/
theorem pduStep_block {f : List Dibit} {u : DataUnit} {blk : Block} (hstatus : isStatus (f.length - 1) = false)
    (hend : ndata f.length = 56 + 98 * (u.blocks.length + 1))
    (hblk : decodeBlock (nextRate u.duid u.blocks) (wordAt (dataBits f) (112 + 196 * u.blocks.length) 196) = .ok blk) :
    pduStep f u =
      .ok { u with blocks := u.blocks ++ [blk], total := pduTotal u.duid (u.blocks ++ [blk]) } := by
  have hextract : extract (dataBits f) (bodyStart + blockBits * u.blocks.length)
      (bodyStart + blockBits * (u.blocks.length + 1)) =
      .ok (wordAt (dataBits f) (112 + 196 * u.blocks.length) 196).toNat := by
    have hlen : 112 + 196 * u.blocks.length + 196 ≤ (dataBits f).length := by rw [dataBits_length, hend]; omega
    have hcut : bodyStart + blockBits * (u.blocks.length + 1) = 112 + 196 * u.blocks.length + 196 := by
      simp only [bodyStart, blockBits]; omega
    rw [hcut]
    exact extract_span hlen
  rw [pduStep, if_neg (by simp [hstatus]), if_neg (not_not.mpr hend)]
  simp only [hextract, bind, Except.bind, BitVec.ofNat_toNat, BitVec.setWidth_eq, hblk]
  rfl

/-! ## The write-back -/

theorem wordAt_congr {b d : Bits} {a n : Nat} (h : ∀ p, a ≤ p → p < a + n → d[p]? = b[p]?) :
    wordAt d a n = wordAt b a n := by
  have hpart : (d.drop a).take n = (b.drop a).take n := by
    refine List.ext_getElem? fun i => ?_
    rcases Nat.lt_or_ge i n with hi | hi
    · rw [List.getElem?_take_of_lt hi, List.getElem?_take_of_lt hi, List.getElem?_drop, List.getElem?_drop,
        h _ (Nat.le_add_right a i) (by omega)]
    · rw [List.getElem?_eq_none (by simp; omega), List.getElem?_eq_none (by simp; omega)]
  rw [wordAt, wordAt, hpart]

/-- What stands in the data bits for a block: its re-encoding, or its bits as received (R286, R290). -/
def blockWord (b : Bits) (k : Nat) (blk : Block) : BitVec 196 :=
  if blk.status = .ok then blk.cw else wordAt b (112 + 196 * k) 196

theorem writeBlocks_cons {b : Bits} {k : Nat} (h : 112 + 196 * k + 196 ≤ b.length) (blk : Block) (bs : List Block) :
    writeBlocks k (blk :: bs) b = writeBlocks (k + 1) bs (overwritten b (112 + 196 * k) (blockWord b k blk)) := by
  rw [writeBlocks, blockWord]
  split
  · have hscatter : scatter b (span (bodyStart + blockBits * k) blockBits) blk.cw.toNat =
        .ok (overwritten b (112 + 196 * k) blk.cw) := Feeds.scatter_span h
    simp only [hscatter, bind, Except.bind]
  · rw [overwritten_wordAt h]

/-- Each block's word is written in its place, and nothing before the blocks changes (R290, R302). -/
theorem writeBlocks_spec {k : Nat} {bs : List Block} {b : Bits} (h : 112 + 196 * (k + bs.length) ≤ b.length) :
    ∃ d, writeBlocks k bs b = .ok d ∧ d.length = b.length ∧ (∀ p < 112 + 196 * k, d[p]? = b[p]?) ∧
      ∀ j x, bs[j]? = some x → wordAt d (112 + 196 * (k + j)) 196 = blockWord b (k + j) x := by
  induction bs generalizing k b with
  | nil => exact ⟨b, rfl, rfl, fun _ _ => rfl, fun j x hx => by simp at hx⟩
  | cons blk bs ih =>
    rw [List.length_cons] at h
    have hk : 112 + 196 * k + 196 ≤ b.length := by omega
    have hlen := overwritten_length (blockWord b k blk) hk
    obtain ⟨d, hd, hdlen, hbefore, hwords⟩ :=
      ih (k := k + 1) (b := overwritten b (112 + 196 * k) (blockWord b k blk)) (by rw [hlen]; omega)
    refine ⟨d, (writeBlocks_cons hk blk bs).trans hd, hdlen.trans hlen, fun p hp => ?_, fun j x hx => ?_⟩
    · rw [hbefore p (by omega), getElem?_overwritten_of_lt _ hk hp]
    · cases j with
      | zero =>
        obtain rfl : blk = x := by simpa using hx
        rw [Nat.add_zero, wordAt_congr fun p _ hp => hbefore p (by omega), wordAt_overwritten_same _ hk]
      | succ j =>
        have hword := hwords j x (by simpa using hx)
        rw [show k + 1 + j = k + (j + 1) by omega] at hword
        rw [hword, blockWord, wordAt_overwritten _ hk (.inr (by omega)), ← blockWord]

/-- The record's decode of a PDU: its blocks written back over the data bits (R290, R300, R301). -/
theorem decodePdu_eq {u : DataUnit} {b : Bits} {k : Nat} (h : 112 + 196 * u.blocks.length ≤ b.length)
    (htotal : u.total = some k) :
    ∃ d : Bits, d.length = b.length ∧ d.take 112 = b.take 112 ∧
      (∀ j x, u.blocks[j]? = some x → wordAt d (112 + 196 * j) 196 = blockWord b j x) ∧
      decodePdu u b = .ok {
        dbits := d
        fields := .pdu {
          blocks := u.blocks.map fun x => ⟨x.status, x.rate, x.octets, x.errs⟩, format := recordFormat u.blocks,
          total := k }
        payload := u.blocks.flatMap (·.octets) } := by
  obtain ⟨d, hd, hlen, hbefore, hwords⟩ := writeBlocks_spec (k := 0) (bs := u.blocks) (b := b) (by omega)
  refine ⟨d, hlen, List.ext_getElem? fun p => ?_, fun j x hx => by simpa using hwords j x hx, ?_⟩
  · rcases Nat.lt_or_ge p 112 with hp | hp
    · rw [List.getElem?_take_of_lt hp, List.getElem?_take_of_lt hp, hbefore p (by omega)]
    · rw [List.getElem?_eq_none (by simp; omega), List.getElem?_eq_none (by simp; omega)]
  · simp only [decodePdu, hd, bind, Except.bind, htotal, Option.getD_some, pure, Except.pure]
    rfl

/-! ## The FEED -/

section Feed

variable {v : BitVec 8} {s : State} {u : DataUnit} (hv : v.toNat < 4) (hst : s.st = .reading) (hunit : s.unit = some u)
  (hvar : u.variant = .pdu) (hlife : u.life = .accumulating)
include hv hst hunit hvar hlife

/-- A PDU that is not complete reads on (R330). -/
theorem exec_feed_incomplete {u' : DataUnit} (hstep : pduStep (fed s v) u = .ok u') (hvar' : u'.variant = .pdu)
    (htotal : u'.total ≠ some u'.blocks.length) :
    exec (.feed v) s =
      .next { s with fbuf := fed s v, unit := some u', resp := some (answerFeed .none 2) } := by
  have hextend : extend (v.setWidth 2) s.fbuf u = .ok (fed s v, u') := by
    rw [extend_pdu hlife hvar]
    exact congrArg (Except.map _) hstep
  have hread : feedStep (v.setWidth 2) s = .ok ({ s with fbuf := fed s v, unit := some u' }, .none) := by
    rw [Output.feedStep_reading _ hst, readStep_eq hunit hextend,
      if_neg fun h => htotal ((isComplete_pdu hvar' _).mp h)]
  rw [Feeds.exec_feed_eq hv (Feeds.ready_of_st hst (by decide)) hread]
  simp only [feedDone, respond, hst]
  rfl

/-- A PDU that is complete is decoded and emitted (R331). -/
theorem exec_feed_complete {u' : DataUnit} {x : Decoding} (hstep : pduStep (fed s v) u = .ok u')
    (hvar' : u'.variant = .pdu) (htotal : u'.total = some u'.blocks.length) (hlen : 57 ≤ (fed s v).length)
    (hx : decodePdu { u' with life := .complete } (nidWritten (dataBits (fed s v)) u'.nidCw) = .ok x) :
    exec (.feed v) s = .next (completed s (recordOf u' (fed s v).length x)) := by
  have hextend : extend (v.setWidth 2) s.fbuf u = .ok (fed s v, u') := by
    rw [extend_pdu hlife hvar]
    exact congrArg (Except.map _) hstep
  have hdecode : decodeVariant { u' with life := .complete } (nidWritten (dataBits (fed s v)) u'.nidCw) = .ok x := by
    simp only [decodeVariant, hvar']
    exact hx
  have hread := Output.feedStep_reading (v.setWidth 2) hst
  rw [readStep_eq hunit hextend, if_pos ((isComplete_pdu hvar' _).mpr htotal),
    Feeds.completeUnit_eq hlen hdecode] at hread
  exact Feeds.exec_feed_eq hv (Feeds.ready_of_st hst (by decide)) hread

end Feed

/-- Settles O56. -/
theorem feedReadsPdu : Obligations.FeedReadsPdu := by
  unfold Obligations.FeedReadsPdu
  intro v s u k hv hst hunit hvar hlife hk htotal
  subst hk
  have hfed : (fed s v).length - 1 = s.fbuf.length := by simp [fed]
  refine ⟨fun hskip => ?_, fun hstatus hend => ?_⟩
  · have hstep : pduStep (fed s v) u = .ok u := by
      refine pduStep_skip ?_
      rw [hfed, Memory.isStatus_iff]
      exact hskip
    rw [exec_feed_incomplete hv hst hunit hvar hlife hstep hvar htotal, ← hunit]
  · obtain ⟨blk, hblk, -⟩ := Faults.answers_decodeBlock (nextRate u.duid u.blocks)
      (wordAt (dataBits (fed s v)) (112 + 196 * u.blocks.length) 196)
    have hstep := pduStep_block (by rwa [hfed, ← Bool.not_eq_true, Memory.isStatus_iff]) hend hblk
    rw [nextRate_eq] at hblk
    refine ⟨blk, _, hblk, rfl, fun hmore => ?_, fun hlast => ?_⟩
    · exact exec_feed_incomplete hv hst hunit hvar hlife hstep hvar (by simpa using hmore)
    · have hlen : (dataBits (fed s v)).length = 112 + 196 * (u.blocks.length + 1) := by
        rw [dataBits_length, hend]; omega
      have hnid := nidWritten_length (cw := u.nidCw) (show 112 ≤ (dataBits (fed s v)).length by omega)
      obtain ⟨d, hdlen, hdtake, hwords, hdecode⟩ := decodePdu_eq
        (u := { u with
          blocks := u.blocks ++ [blk], total := pduTotal u.duid (u.blocks ++ [blk]), life := .complete })
        (b := nidWritten (dataBits (fed s v)) u.nidCw) (by simp; omega) hlast
      refine ⟨d, by omega, hdtake, fun j _ x hx => ?_, ?_⟩
      · rw [hwords j x hx, blockWord, wordAt_nidWritten u.nidCw (by omega) (by omega)]
      · have hlong : 57 ≤ (fed s v).length := by
          have : ndata (fed s v).length ≤ (fed s v).length := Nat.sub_le ..
          omega
        rw [exec_feed_complete hv hst hunit hvar hlife hstep hvar (by simpa using hlast) hlong hdecode, recordOf, hvar]
        rfl

end Sys2Proof.PduFeeds
